-- ==== Sys2Proof/Word.lean ====
section
/-! DEFINITION. The word types of the PFG600 framing block (spec/00_scope.md R5, R7; spec/10_state.md R12, R23):
the byte, the data word, the Message a frame register holds, and the record of signals on the command port. -/

namespace Sys2Proof

/-- A byte, the unit of both byte streams (R7, R26). -/
abbrev Byte := BitVec 8

/-- The 16-bit data word of a frame (R5 `DATA_W`, R12). -/
abbrev Half := BitVec 16

/-- The value type Message (R12, R100): what a frame register holds beside its valid bit. `ck` is a stored field of
its own and need not equal the XOR of the others (R16). -/
structure Message where
  /-- `address`, identifies the target device -/
  addr : Byte
  /-- `waitingBit`: 1 = query, 0 = write -/
  wb : BitVec 1
  /-- `functionCode`, 0 to 127 -/
  fc : BitVec 7
  /-- `data` -/
  data : Half
  /-- the stored `checksum` -/
  ck : Byte
  deriving DecidableEq, Repr, Inhabited

/-- One command record `cmd` on the command port: separate signals, not packed into a word (R23, R81). -/
structure CmdRecord where
  /-- `cmd.op`, the operation code (R80) -/
  op : BitVec 3
  /-- `cmd.addr` -/
  addr : Byte
  /-- `cmd.fc`, before masking to 7 bits -/
  fc : Byte
  /-- `cmd.data` -/
  data : Half
  /-- `cmd.wb`; 2 to 255 are representable, so that `InvalidField` can arise -/
  wb : Byte
  /-- `cmd.sel`: 0 = TXF, 1 = RXF -/
  sel : BitVec 1
  /-- `cmd.len`, the number of bytes supplied -/
  len : BitVec 5
  /-- `cmd.bytes`, first byte first -/
  bytes : List Byte
  deriving DecidableEq, Repr, Inhabited

end Sys2Proof
end

