-- ==== Sys2Proof/Config.lean ====
section
/-! DEFINITION. What the spec leaves open: the parameters of a run (spec/00_scope.md R6) and the free values
(spec/93_implementation_defined.md). Every constant here is opaque, without a body: no proof can read a value of it.
Each transport or device draw takes the counter of free values and all bytes sent so far, so that what the device does
may depend on both (log 4). -/

namespace Sys2Proof

/-- `DEFAULT_ADDRESS`, the address a SIMPLE message carries: an open parameter (R6, R84, U14). DESIGN CHOICE of form, log 16. -/
opaque Config.defaultAddress : Byte

/-- How much `RX_LEN_MAX` exceeds its least value 25 (R6). -/
opaque Config.rxLenExtra : Nat

/-- `RX_LEN_MAX`, the longest byte sequence the transport can hand back for one read: open, at least 25 (R6). -/
def Config.rxLenMax : Nat := Config.rxLenExtra + 25

/-- The unspecified fields of TXF after the reset that finds the counter at `n` (R29, U3; log 1). -/
opaque Config.resetTxf (n : Nat) : Message

/-- The unspecified fields of RXF after a reset (R29, U3; log 1). -/
opaque Config.resetRxf (n : Nat) : Message

/-- The unspecified content of RXB after a reset (R29, U5; log 1). -/
opaque Config.resetRxb (n : Nat) : List Byte

/-- The line buffer when the block comes out of `State.reset`: any content (R27, R29; log 2). -/
opaque Config.lineAtReset : List Byte

/-- The `res.msg` of a result record that carries no Message (R24, U4; log 10). -/
opaque Config.resMsg (n : Nat) : Message

/-- The `res.bytes`, as a 40-bit value, of a result record that carries no frame (R24, U4; log 10). -/
opaque Config.resBytes (n : Nat) : BitVec 40

/-- The `res.flag` of a result record that carries no flag (R24, U4; log 10). -/
opaque Config.resFlag (n : Nat) : Bool

/-- Whether the transport answers `timeout` to a TWrite that no script answers (R41, R60; log 4). -/
opaque Config.writeTimesOut (n : Nat) (sent : List Byte) : Bool

/-- How many bytes of an unfinished TWrite reached the line (R46, U10, R201; log 7, log 12). -/
opaque Config.sentCount (n : Nat) (sent : List Byte) : Nat

/-- Whether the transport answers `timeout` to a TRead that no script answers (R42, R60; log 4). -/
opaque Config.readTimesOut (n : Nat) (sent : List Byte) : Bool

/-- The bytes the transport hands back to a TRead that no script answers (R44, R60, U2, U13; log 4). -/
opaque Config.readBytes (n : Nat) (sent : List Byte) : List Byte

/-- The bytes the device puts into the line buffer in a step that no tick describes (R27, R60; log 4). -/
opaque Config.lineArrival (n : Nat) (sent : List Byte) : List Byte

/-- The line buffer after the transport handed over bytes that did not stand at its front (R60; log 5). -/
opaque Config.lineAfter (n : Nat) (sent : List Byte) : List Byte

end Sys2Proof
end

