-- ==== Sys2Proof/Machine/Codes.lean ====
section
/-! DEFINITION. The fixed numbers of the protocol (spec/00_scope.md R5). They are normative for want of another source;
the document's literals are unaudited (U9; log 20, UNVERIFIED). -/

namespace Sys2Proof.Machine

/-- `FRAME_LEN`: bytes in every frame, request and response (R5, R70). -/
def frameLen : Nat := 5

/-- `ACK_CODE`, the reserved response function code ACK (R5, R78). -/
def ackCode : BitVec 7 := 0x06#7

/-- `NAK_CODE`, the reserved response function code NAK (R5, R78). -/
def nakCode : BitVec 7 := 0x15#7

/-- `DRAIN_READ_LEN`: bytes requested by each read of the clear operation (R5, R134). -/
def drainReadLen : Nat := 25

end Sys2Proof.Machine
end

