-- ==== Sys2Proof/Syntax.lean ====
section
/-! DEFINITION. The instructions: one constructor per row of spec/opcode_table.json. The rows of format CMD are the host's
commands with their operand signals (spec/30_encoding.md R80, R81), PSEUDO is the line SIMPLE (R84), the rows of format
FRAME are the classes of wire frame (R76): the two the block sends and the three it receives (log 8). -/

namespace Sys2Proof

/-- One row of the opcode table with its operands. -/
inductive Instr where
  /-- `CONSTRUCT addr, fc, data, wb`: build a Message in TXF (R102). -/
  | construct (addr : Byte) (fc : Byte) (data : Half) (wb : Byte)
  /-- `ENCODE`: serialise TXF (R104). -/
  | encode
  /-- `DECODE b0 b1 ...`: parse a byte sequence into RXF; `cmd.len` is the number of bytes (R105). -/
  | decode (bytes : List Byte)
  /-- `VERIFY TXF` (sel = 0) or `VERIFY RXF` (sel = 1): check the stored checksum (R106). -/
  | verify (sel : BitVec 1)
  /-- `QUERY`: send TXF as a query (R132). -/
  | query
  /-- `WRITE`: send TXF as a write (R133). -/
  | write
  /-- `CLEAR`: empty the transport's line buffer (R134). -/
  | clear
  /-- `cmd.op = 7`, reserved (R82). -/
  | reserved7
  /-- `SIMPLE fc, data`: the pseudo-command, CONSTRUCT with DEFAULT_ADDRESS and waiting bit 0 (R84, R103). -/
  | simple (fc : Byte) (data : Half)
  /-- Request frame with waiting bit 1 (R76 `QRY`). -/
  | qry (addr : Byte) (fc : BitVec 7) (data : Half) (ck : Byte)
  /-- Request frame with waiting bit 0 (R76 `WRT`). -/
  | wrt (addr : Byte) (fc : BitVec 7) (data : Half) (ck : Byte)
  /-- Response frame with function code 0x06 (R76 `ACK`). -/
  | ack (addr : Byte) (wb : BitVec 1) (data : Half) (ck : Byte)
  /-- Response frame with function code 0x15 (R76 `NAK`). -/
  | nak (addr : Byte) (wb : BitVec 1) (data : Half) (ck : Byte)
  /-- Response frame with any other function code (R76 `DAT`). -/
  | dat (addr : Byte) (wb : BitVec 1) (fc : BitVec 7) (data : Half) (ck : Byte)
  deriving DecidableEq, Repr

end Sys2Proof
end

