-- ==== Sys2Proof/WellFormed.lean ====
section
/-! DEFINITION. Which instructions have an encoding: the bounds that the operand types alone do not give
(spec/10_state.md R23, spec/30_encoding.md R76). -/

namespace Sys2Proof

/-- DECODE carries at most 31 bytes, because `cmd.len` has 5 bits (R23); a DAT frame's function code is neither ACK's
nor NAK's (R76). Everything else is bounded by the operand widths. -/
def Instr.wellFormed : Instr → Bool
  | .construct _ _ _ _ => true
  | .encode => true
  | .decode bytes => decide (bytes.length ≤ 31)
  | .verify _ => true
  | .query => true
  | .write => true
  | .clear => true
  | .reserved7 => true
  | .simple _ _ => true
  | .qry _ _ _ _ => true
  | .wrt _ _ _ _ => true
  | .ack _ _ _ _ => true
  | .nak _ _ _ _ => true
  | .dat _ _ fc _ _ => decide (fc ≠ Machine.ackCode) && decide (fc ≠ Machine.nakCode)

end Sys2Proof
end

