-- ==== Sys2Proof/Decode.lean ====
section
/-! DEFINITION. Encodings: the wire frame (spec/30_encoding.md R70 to R74), its classes (R76, R77), the command record
(R80, R81), the decoder of all three, and after it the encoder written from the same tables. -/

namespace Sys2Proof

/-! ### The wire frame -/

/-- `fb(m)`, byte 1 of a frame: `(waitingBit << 7) | functionCode` (R8, R72). -/
def functionByte (m : Message) : Byte := (m.wb.setWidth 8 <<< 7) ||| m.fc.setWidth 8

/-- `hi(d) = (d >> 8) & 0xFF`, byte 2 of a frame (R8, R73, R110). -/
def dataHigh (d : Half) : Byte := ((d >>> 8) &&& 0x00FF#16).setWidth 8

/-- `lo(d) = d & 0xFF`, byte 3 of a frame (R8, R73). -/
def dataLow (d : Half) : Byte := (d &&& 0x00FF#16).setWidth 8

/-- `CK(m)`: the XOR of the address, the function byte and the two data bytes; it ignores `m.ck` (R100, R101). -/
def checksum (m : Message) : Byte :=
  m.addr ^^^ functionByte m ^^^ dataHigh m.data ^^^ dataLow m.data

/-- A Message's five bytes in wire order, with its checksum byte as it stands (R71). -/
def frameBytes (m : Message) : List Byte :=
  [m.addr, functionByte m, dataHigh m.data, dataLow m.data, m.ck]

/-- The Message with its checksum recomputed (R104). -/
def freshChecksum (m : Message) : Message := { m with ck := checksum m }

/-- `encode(m)`: the five bytes with the checksum computed fresh; a stored checksum never reaches the wire (R100, R104). -/
def encodeMessage (m : Message) : List Byte := frameBytes (freshChecksum m)

/-- The Message in five bytes: each field from exactly its bits, the checksum as received (R71 to R74, R105). -/
def messageOfBytes (b0 b1 b2 b3 b4 : Byte) : Message :=
  { addr := b0
    wb := (b1 >>> 7).setWidth 1
    fc := (b1 &&& 0x7F#8).setWidth 7
    data := (b2.setWidth 16 <<< 8) ||| b3.setWidth 16
    ck := b4 }

/-- `decode(bs)`: a Message from exactly 5 bytes; `none` is the document's `InvalidFrameLength` (R105). -/
def decodeMessage : List Byte → Option Message
  | [b0, b1, b2, b3, b4] => some (messageOfBytes b0 b1 b2 b3 b4)
  | _ => none

/-- The five bytes of a frame written as the 40-bit number FRAME40, byte 0 most significant (R9). -/
def bytesOfFrame40 (w : BitVec 40) : List Byte :=
  [(w >>> 32).setWidth 8, (w >>> 24).setWidth 8, (w >>> 16).setWidth 8, (w >>> 8).setWidth 8, w.setWidth 8]

/-! ### The decoder -/

/-- What the machine can be given to decode: a record on the command port, a frame it sends, a frame it received. -/
inductive Raw where
  /-- a record on the command port (R23) -/
  | command (c : CmdRecord)
  /-- the bytes of a frame from the block to the device (R76, requests) -/
  | request (bytes : List Byte)
  /-- the bytes of a frame from the device to the block (R76, responses) -/
  | response (bytes : List Byte)
  deriving DecidableEq, Repr

/-- Why a raw word decodes to no instruction. -/
inductive Reject where
  /-- A DECODE record whose `cmd.len` is not the number of its bytes; no such record fits on the port (R23; log 18). -/
  | lengthMismatch
  /-- A byte sequence that is not 5 bytes long is not a frame at all (R75). -/
  | notAFrame
  deriving DecidableEq, Repr

/-- The class of a frame the block sends, by its waiting bit (R76). -/
def requestClass (m : Message) : Instr :=
  if m.wb = 1#1 then .qry m.addr m.fc m.data m.ck else .wrt m.addr m.fc m.data m.ck

/-- The class of a frame the block received, by its 7-bit function code alone (R76, R77). -/
def responseClass (m : Message) : Instr :=
  if m.fc = Machine.ackCode then .ack m.addr m.wb m.data m.ck
  else if m.fc = Machine.nakCode then .nak m.addr m.wb m.data m.ck
  else .dat m.addr m.wb m.fc m.data m.ck

/-- The command a record selects by `cmd.op` (R80); fields the command does not use are ignored (R23). -/
def decodeCommand (c : CmdRecord) : Except Reject Instr :=
  if c.op = 0#3 then .ok (.construct c.addr c.fc c.data c.wb)
  else if c.op = 1#3 then .ok .encode
  else if c.op = 2#3 then
    if c.bytes.length = c.len.toNat then .ok (.decode c.bytes) else .error .lengthMismatch
  else if c.op = 3#3 then .ok (.verify c.sel)
  else if c.op = 4#3 then .ok .query
  else if c.op = 5#3 then .ok .write
  else if c.op = 6#3 then .ok .clear
  else .ok .reserved7

/-- The decoder: total, with a name for every rejection. -/
def decodeRaw : Raw → Except Reject Instr
  | .command c => decodeCommand c
  | .request bs =>
    match decodeMessage bs with
    | some m => .ok (requestClass m)
    | none => .error .notAFrame
  | .response bs =>
    match decodeMessage bs with
    | some m => .ok (responseClass m)
    | none => .error .notAFrame

/-! ### The encoder -/

/-- A command record with every signal zero but `cmd.op`. -/
def blankRecord (op : BitVec 3) : CmdRecord :=
  { op := op, addr := 0#8, fc := 0#8, data := 0#16, wb := 0#8, sel := 0#1, len := 0#5, bytes := [] }

/-- The raw form of an instruction: the record that presents a command (R80), the bytes of a frame (R71, R76). SIMPLE has
no `cmd.op` of its own: its record is that of `CONSTRUCT DEFAULT_ADDRESS, fc, data, 0` (R84). -/
def encodeInstr : Instr → Raw
  | .construct addr fc data wb => .command { blankRecord 0#3 with addr := addr, fc := fc, data := data, wb := wb }
  | .encode => .command (blankRecord 1#3)
  | .decode bytes => .command { blankRecord 2#3 with len := BitVec.ofNat 5 bytes.length, bytes := bytes }
  | .verify sel => .command { blankRecord 3#3 with sel := sel }
  | .query => .command (blankRecord 4#3)
  | .write => .command (blankRecord 5#3)
  | .clear => .command (blankRecord 6#3)
  | .reserved7 => .command (blankRecord 7#3)
  | .simple fc data =>
    .command { blankRecord 0#3 with addr := Config.defaultAddress, fc := fc, data := data, wb := 0#8 }
  | .qry addr fc data ck => .request (frameBytes { addr := addr, wb := 1#1, fc := fc, data := data, ck := ck })
  | .wrt addr fc data ck => .request (frameBytes { addr := addr, wb := 0#1, fc := fc, data := data, ck := ck })
  | .ack addr wb data ck =>
    .response (frameBytes { addr := addr, wb := wb, fc := Machine.ackCode, data := data, ck := ck })
  | .nak addr wb data ck =>
    .response (frameBytes { addr := addr, wb := wb, fc := Machine.nakCode, data := data, ck := ck })
  | .dat addr wb fc data ck => .response (frameBytes { addr := addr, wb := wb, fc := fc, data := data, ck := ck })

/-- What an instruction's raw form decodes to: itself, and for the pseudo-command SIMPLE its expansion (R84). -/
def expandPseudo : Instr → Instr
  | .simple fc data => .construct Config.defaultAddress fc data 0#8
  | i => i

/-! ### The opcode table's numbering -/

/-- The raw word behind a table word. A row of at most 8 bits is a command, `cmd.op` its low 3 bits, every operand signal
zero. A longer row is a frame as FRAME40 (R9); the table gives no direction, so the two reserved function codes are
tried first, as the table's note on DAT says, and every other frame is read as a request (DESIGN CHOICE, log 9). -/
def rawOfTableWord (nbits w : Nat) : Raw :=
  if nbits ≤ 8 then .command (blankRecord (BitVec.ofNat 3 w))
  else
    let bs := bytesOfFrame40 (BitVec.ofNat 40 w)
    match decodeMessage bs with
    | some m => if m.fc = Machine.ackCode ∨ m.fc = Machine.nakCode then .response bs else .request bs
    | none => .request bs

/-- The instruction the decoder reads from a table word. -/
def decodeTableWord (nbits w : Nat) : Option Instr := (decodeRaw (rawOfTableWord nbits w)).toOption

end Sys2Proof
end

