-- ==== Sys2Proof/Machine/State.lean ====
section
/-! DEFINITION. All state of the block, its ports and what stands behind them (spec/10_state.md), as plain data, with the
reasons a step can stop and the state after reset. -/

namespace Sys2Proof.Machine

/-- The two frame registers (R11). -/
inductive FrameName where
  /-- the request Message -/
  | txf
  /-- the response Message -/
  | rxf
  deriving DecidableEq, Repr

/-- The values of `FSM.state` (R17). -/
inductive FsmState where
  /-- waiting for a command -/
  | idle
  /-- waiting for the transport's answer to TWrite -/
  | send
  /-- waiting for the transport's answer to TRead(5) -/
  | awaitResponse
  /-- holding the received bytes in RXB -/
  | validate
  /-- finished with success, result not yet taken -/
  | done
  /-- finished with a failure, result not yet taken -/
  | failed
  /-- waiting for the transport's answer to TRead(25) -/
  | drain
  deriving DecidableEq, Repr

/-- The values of `FSM.mode` (R18). -/
inductive Mode where
  /-- no exchange command in progress -/
  | none
  | query
  | write
  | clear
  deriving DecidableEq, Repr

/-- The status codes (R19, R170). -/
inductive Status where
  | ok
  | invalidField
  | invalidFrameLength
  | timeout
  | invalidFrame
  | badChecksum
  | nak
  | notAcked
  deriving DecidableEq, Repr

/-- A frame register: a valid bit and a Message (R12). While `v` is false the Message is no value, and nothing reads it
(R14; log 14). -/
structure FrameReg where
  v : Bool
  msg : Message
  deriving DecidableEq, Repr

/-- A request from the block to the transport (R25). -/
inductive Request where
  /-- `TWrite(bs)` -/
  | twrite (bytes : List Byte)
  /-- `TRead(n)` -/
  | tread (n : Nat)
  deriving DecidableEq, Repr

/-- The transport's answer to a TWrite (R41). -/
inductive WriteAnswer where
  /-- every byte was handed to the line -/
  | ok
  /-- the write did not complete; a prefix of the bytes went out, `sent` of them (R46; log 7) -/
  | timeout (sent : Nat)
  deriving DecidableEq, Repr

/-- The transport's answer to a TRead (R42, R44, R60). -/
inductive ReadAnswer where
  /-- it hands back these bytes, whatever was asked for and whatever the line buffer held (R44, R60; log 5) -/
  | data (bytes : List Byte)
  /-- it signals the timeout (R42) -/
  | timeout
  /-- it keeps its contract: the first `n` bytes of the line buffer if it holds that many, else a timeout (R42, R62) -/
  | contract
  deriving DecidableEq, Repr

/-- A result record `res` (R24). A field not meaningful for the command and status holds a free value (log 10). -/
structure Result where
  status : Status
  msg : Message
  bytes : List Byte
  flag : Bool
  deriving DecidableEq, Repr

/-- What host and device do in one step beside answering (R10, R27, R141, R200; log 3). -/
structure Tick where
  /-- reset is asserted: the block takes its reset values in this step -/
  reset : Bool
  /-- the host neither presents a command nor takes a result in this step (log 11) -/
  hostBusy : Bool
  /-- bytes the device adds to the line buffer before the block's step -/
  arrive : List Byte
  deriving DecidableEq, Repr

/-- The state of the block, its ports and the transport. -/
structure State where
  /-- `FSM.state` (R17) -/
  fsm : FsmState
  /-- `FSM.mode` (R18) -/
  mode : Mode
  /-- `STATUS` (R19) -/
  status : Status
  /-- `TXF` (R11) -/
  txf : FrameReg
  /-- `RXF` (R11) -/
  rxf : FrameReg
  /-- `RXB.bytes`; `RXB.len` is its length (R20) -/
  rxb : List Byte
  /-- the outstanding transport request (R25) -/
  request : Option Request
  /-- the commands the host presents, the first one on the command port (R23, R160) -/
  cmds : List CmdRecord
  /-- the result records handed to the host, oldest first (R24) -/
  results : List Result
  /-- what host and device do in the coming steps, the next one first (log 3) -/
  ticks : List Tick
  /-- the transport's coming answers to TWrite requests (R61; log 3) -/
  writeAnswers : List WriteAnswer
  /-- the transport's coming answers to TRead requests (R61; log 3) -/
  readAnswers : List ReadAnswer
  /-- the transport's line buffer, in arrival order (R27) -/
  line : List Byte
  /-- the bytes handed to the line so far (R26, R62) -/
  txlog : List Byte
  /-- the model's own counter of free values (log 4) -/
  draws : Nat
  deriving DecidableEq, Repr

/-- Why the machine stops with a fault. -/
inductive Fault where
  /-- Raised by a step in SEND, AWAIT_RESPONSE or DRAIN without the request R25 says is outstanding there. No run reaches
  such a state (the invariant of Safety.lean). Safe: the machine stops. -/
  | noRequestOutstanding
  deriving DecidableEq, Repr

/-- Why an instruction is given no step. -/
inductive Refusal where
  /-- An arm of exec without a meaning. Safe. None is left. -/
  | notModelled (mnemonic : String)
  /-- `cmd.op = 7`: "it is never accepted" (R82). Raised by RESERVED7. Safe. -/
  | reservedOp
  /-- A command that reads a frame register whose valid bit is 0 is not accepted (R14). Raised by ENCODE, VERIFY, QUERY
  and WRITE. Safe. -/
  | registerInvalid (F : FrameName)
  /-- A command given to the block outside IDLE, where the command port is not ready (R23, R160). Raised by the seven
  commands; a step never raises it, because the port keeps the command. Safe. -/
  | portNotReady
  /-- A frame given to the block in a state in which it neither sends nor checks one (R136, R140). Raised by the frame
  classes; a step never raises it. Safe. -/
  | frameNotDue
  /-- What was fetched decodes to no instruction. Raised by a step, for a command record that cannot stand on the port
  (log 18). Safe. -/
  | undecodable (r : Reject)
  deriving DecidableEq, Repr

/-- The state right after reset (R29, R200). Fields that R29 leaves unspecified hold free constants (log 1); what stands
outside the block is empty, but for the line buffer, which may hold anything (log 2). -/
def State.reset : State :=
  { fsm := .idle
    mode := .none
    status := .ok
    txf := { v := false, msg := Config.resetTxf 0 }
    rxf := { v := false, msg := Config.resetRxf 0 }
    rxb := (Config.resetRxb 0).take Config.rxLenMax
    request := none
    cmds := []
    results := []
    ticks := []
    writeAnswers := []
    readAnswers := []
    line := Config.lineAtReset
    txlog := []
    draws := 0 }

end Sys2Proof.Machine
end

