-- ==== Sys2Proof/Machine/Ops.lean ====
section
/-! DEFINITION. The named operations over registers and ports (spec/10_state.md), the numbers of the codes, raising a
failure (spec/60_exceptions.md R176), the return to IDLE (R141), and reset (R200, R201). -/

namespace Sys2Proof.Machine

/-! ### Numbers of the codes -/

/-- The number of an FSM state; 7 is never held (R17). -/
def FsmState.code : FsmState → BitVec 3
  | .idle => 0#3
  | .send => 1#3
  | .awaitResponse => 2#3
  | .validate => 3#3
  | .done => 4#3
  | .failed => 5#3
  | .drain => 6#3

/-- The number of a mode (R18). -/
def Mode.code : Mode → BitVec 2
  | .none => 0#2
  | .query => 1#2
  | .write => 2#2
  | .clear => 3#2

/-- The number of a status code; 8 to 15 do not exist (R19, R170). -/
def Status.code : Status → BitVec 4
  | .ok => 0#4
  | .invalidField => 1#4
  | .invalidFrameLength => 2#4
  | .timeout => 3#4
  | .invalidFrame => 4#4
  | .badChecksum => 5#4
  | .nak => 6#4
  | .notAcked => 7#4

/-- The group `CommunicationError`, codes 3 to 7 (R170). -/
def Status.isCommunicationError : Status → Bool
  | .ok => false
  | .invalidField => false
  | .invalidFrameLength => false
  | .timeout => true
  | .invalidFrame => true
  | .badChecksum => true
  | .nak => true
  | .notAcked => true

/-! ### Reads and writes of the registers -/

/-- Read of a frame register (R11). -/
def State.frameReg (F : FrameName) (s : State) : FrameReg :=
  match F with
  | .txf => s.txf
  | .rxf => s.rxf

/-- `TXF <- m; TXF.v <- 1` (R102). -/
def State.putTxf (m : Message) (s : State) : State := { s with txf := { v := true, msg := m } }

/-- `RXF <- m; RXF.v <- 1` (R105, R140). -/
def State.putRxf (m : Message) (s : State) : State := { s with rxf := { v := true, msg := m } }

/-- `RXF.v <- 0` (R135); the fields are then no value (log 14). -/
def State.dropRxf (s : State) : State := { s with rxf := { s.rxf with v := false } }

/-- `RXB.bytes <- bs; RXB.len <- len(bs)` (R138). -/
def State.putRxb (bs : List Byte) (s : State) : State := { s with rxb := bs }

/-- `STATUS <- st` (R19). -/
def State.putStatus (st : Status) (s : State) : State := { s with status := st }

/-- `FSM.mode <- m` (R18). -/
def State.putMode (m : Mode) (s : State) : State := { s with mode := m }

/-- A transition of the FSM: its target and the transport request it issues; none ends the one outstanding (R17, R25). -/
def State.goto (f : FsmState) (r : Option Request) (s : State) : State := { s with fsm := f, request := r }

/-- Bytes handed to the line, in order (R41). -/
def State.transmit (bs : List Byte) (s : State) : State := { s with txlog := s.txlog ++ bs }

/-- A result record handed to the host (R24). -/
def State.handOver (r : Result) (s : State) : State := { s with results := s.results ++ [r] }

/-! ### Result records -/

/-- A result record of which only the status is meaningful; the other fields are free values (R24, U4; log 10). -/
def bareResult (st : Status) (s : State) : Result :=
  { status := st
    msg := Config.resMsg s.draws
    bytes := bytesOfFrame40 (Config.resBytes s.draws)
    flag := Config.resFlag s.draws }

/-- The end of a codec command: its status to STATUS and its result record to the host, in the same step (R111). -/
def endCodec (r : Result) (s : State) : State := (s.putStatus r.status).handOver r

/-! ### Acceptance -/

/-- A command has a step only where the command port is ready, in IDLE (R23, R111, R131). -/
def accept (s : State) (run : Host.Outcome State Fault Refusal) : Host.Outcome State Fault Refusal :=
  if s.fsm = .idle then run else .refused .portNotReady

/-- A command that reads a frame register has a step only where the register is valid (R14). -/
def reading (F : FrameName) (s : State) (run : Message → Host.Outcome State Fault Refusal) :
    Host.Outcome State Fault Refusal :=
  if (s.frameReg F).v then run (s.frameReg F).msg else .refused (.registerInvalid F)

/-- A frame has a step only where the FSM is in the state that sends or checks it (R136, R137, R140). -/
def frameDue (f : FsmState) (s : State) (run : Host.Outcome State Fault Refusal) : Host.Outcome State Fault Refusal :=
  if s.fsm = f then run else .refused .frameNotDue

/-! ### Raising a failure, and the return to IDLE -/

/-- `raise K` for a codec command: STATUS and the result record, no other register (R176). -/
def raiseCodec (K : Status) (s : State) : State := endCodec (bareResult K s) s

/-- `raise K` for an exchange command: `STATUS <- K`, `FSM.state <- FAILED`, no request outstanding (R176). -/
def raiseExchange (K : Status) (s : State) : State := (s.putStatus K).goto .failed none

/-- The result record of T7: STATUS, and for a QUERY that ended with OK the response Message (R24, R141). -/
def exchangeResult (s : State) : Result :=
  if s.mode = .query ∧ s.status = .ok then { bareResult .ok s with msg := s.rxf.msg } else bareResult s.status s

/-- T7, DONE or FAILED to IDLE: the result goes to the host, the mode to NONE (R141). -/
def takeResult (s : State) : State :=
  ((s.handOver (exchangeResult s)).putMode .none).goto .idle none

/-! ### Reset -/

/-- What an abandoned TWrite still put on the line: a prefix of its bytes (R201, U16; log 12). -/
def abandonedBytes (s : State) : List Byte :=
  match s.request with
  | some (.twrite bs) => bs.take (Config.sentCount s.draws s.txlog)
  | _ => []

/-- Reset: the block takes the values of R29, whatever it was doing, and no result record is produced (R200, R201). The
transport is not reached: the line buffer keeps whatever it held, an abandoned TRead takes nothing from it and its answer,
if one comes, is ignored (R202, R201, R29); of an abandoned TWrite a prefix is sent (R201; log 12). -/
def resetBlock (s : State) : State :=
  { s with
    fsm := .idle
    mode := .none
    status := .ok
    txf := { v := false, msg := Config.resetTxf s.draws }
    rxf := { v := false, msg := Config.resetRxf s.draws }
    rxb := (Config.resetRxb s.draws).take Config.rxLenMax
    request := none
    txlog := s.txlog ++ abandonedBytes s }

end Sys2Proof.Machine
end

