-- ==== Sys2Proof/Machine/Operands.lean ====
section
/-! DEFINITION. The operand forms: what CONSTRUCT makes of its arguments (spec/40_codec.md R102) and which register
VERIFY's `sel` names (spec/10_state.md R23). -/

namespace Sys2Proof.Machine

/-- `construct(a, f, d, w)` over naturals of any size: the waiting bit is checked first, then the address; the function code
is masked to 7 bits and the data to 16; the checksum is fresh. `none` is `InvalidField` (R102; log 17). -/
def construct (a f d w : Nat) : Option Message :=
  if w ≠ 0 ∧ w ≠ 1 then none
  else if a > 255 then none
  else
    some (freshChecksum
      { addr := BitVec.ofNat 8 a
        wb := BitVec.ofNat 1 w
        fc := BitVec.ofNat 7 (f &&& 0x7F)
        data := BitVec.ofNat 16 (d &&& 0xFFFF)
        ck := 0#8 })

/-- The register VERIFY reads: `sel = 0` is TXF, `sel = 1` is RXF (R106). -/
def selected (sel : BitVec 1) : FrameName := if sel = 0#1 then .txf else .rxf

/-- The request Message of an exchange: TXF with the waiting bit forced and the checksum fresh (R135). -/
def requestMessage (wb : BitVec 1) (m : Message) : Message := freshChecksum { m with wb := wb }

end Sys2Proof.Machine
end

