-- ==== Sys2Proof/Machine/Flags.lean ====
section
/-! DEFINITION. The block has no status flags (spec/10_state.md R22). Its one Boolean is VERIFY's result (R106); the tests
of T6 on a decoded response give a status (R140). -/

namespace Sys2Proof.Machine

/-- `verify(m)`: the stored checksum equals the XOR recomputed from the other four fields (R100, R106). -/
def verifyChecksum (m : Message) : Bool := m.ck == checksum m

/-- The tests of T6 on a decoded response, in the order the rule gives: checksum, NAK, and for a WRITE the ACK code
(R140, R179). -/
def responseStatus (mode : Mode) (m : Message) : Status :=
  if verifyChecksum m = false then .badChecksum
  else if m.fc = nakCode then .nak
  else if mode = .write ∧ m.fc ≠ ackCode then .notAcked
  else .ok

end Sys2Proof.Machine
end

