-- ==== Sys2Proof/Machine/Transport.lean ====
section
/-! DEFINITION. The transport behind the port (spec/20_memory.md): what it answers to the outstanding request, by the
script in State and after that as free values, and what each answer does to the two byte streams (log 4 to log 7). -/

namespace Sys2Proof.Machine

/-- The transport's next answer to a TWrite: the script's, else a free value (R41, R60). -/
def nextWriteAnswer (s : State) : WriteAnswer :=
  match s.writeAnswers with
  | a :: _ => a
  | [] =>
    if Config.writeTimesOut s.draws s.txlog then .timeout (Config.sentCount s.draws s.txlog) else .ok

/-- The transport's next answer to a TRead: the script's, else a free value (R42, R60). -/
def nextReadAnswer (s : State) : ReadAnswer :=
  match s.readAnswers with
  | a :: _ => a
  | [] => if Config.readTimesOut s.draws s.txlog then .timeout else .data (Config.readBytes s.draws s.txlog)

/-- What the block is told of the answer to `TRead(n)`: the bytes, or `none` for `timeout`. The transport hands back at most
RX_LEN_MAX bytes (R25, R44). -/
def answeredBytes (n : Nat) (s : State) : Option (List Byte) :=
  match nextReadAnswer s with
  | .timeout => none
  | .data bs => some (bs.take Config.rxLenMax)
  | .contract => if n ≤ s.line.length then some (s.line.take n) else none

/-- The line buffer after the answer to `TRead(n)`: a timeout leaves it empty (R45); bytes handed over from its front are
removed (R42, R52); after bytes that did not stand at its front it is a free value (log 5). -/
def lineAfterAnswer (n : Nat) (s : State) : List Byte :=
  match answeredBytes n s with
  | none => []
  | some bs =>
    if bs.isPrefixOf s.line then s.line.drop bs.length else Config.lineAfter s.draws s.txlog

/-- The state with the transport's side of `TRead(n)` done: the answer used up, the line buffer changed. -/
def readDone (n : Nat) (s : State) : State :=
  { s with readAnswers := s.readAnswers.tail, line := lineAfterAnswer n s }

/-- The state with the answer to a TWrite used up. -/
def writeDone (s : State) : State := { s with writeAnswers := s.writeAnswers.tail }

end Sys2Proof.Machine
end

