-- ==== Sys2Proof/Machine/Codec.lean ====
section
/-! DEFINITION. The Message codec commands (spec/40_codec.md): accepted in IDLE only, complete in the accepting step,
no transport request (R111). -/

namespace Sys2Proof.Machine

/-- The shared body of CONSTRUCT and SIMPLE (R102): TXF on success; on `InvalidField` TXF is unchanged. -/
def runConstruct (a f d w : Nat) (s : State) : State :=
  match construct a f d w with
  | none => raiseCodec .invalidField s
  | some m => endCodec { bareResult .ok s with msg := m } (s.putTxf m)

/-- `CONSTRUCT addr, fc, data, wb` (R102). -/
def execConstruct (addr fc : Byte) (data : Half) (wb : Byte) (s : State) : Host.Outcome State Fault Refusal :=
  accept s (.next (runConstruct addr.toNat fc.toNat data.toNat wb.toNat s))

/-- `SIMPLE fc, data`: `CONSTRUCT DEFAULT_ADDRESS, fc, data, 0` (R84, R103). -/
def execSimple (fc : Byte) (data : Half) (s : State) : Host.Outcome State Fault Refusal :=
  accept s (.next (runConstruct Config.defaultAddress.toNat fc.toNat data.toNat 0 s))

/-- `ENCODE` (R104): TXF.ck is recomputed and the five bytes are returned; nothing is sent. -/
def execEncode (s : State) : Host.Outcome State Fault Refusal :=
  accept s (reading .txf s fun m =>
    .next (endCodec { bareResult .ok s with bytes := encodeMessage m } (s.putTxf (freshChecksum m))))

/-- `DECODE b0 b1 ...` (R105): RXF from exactly 5 bytes, the checksum not verified; another length is
`InvalidFrameLength` and RXF is unchanged. -/
def execDecode (bytes : List Byte) (s : State) : Host.Outcome State Fault Refusal :=
  accept s (.next (
    match decodeMessage bytes with
    | none => raiseCodec .invalidFrameLength s
    | some m => endCodec { bareResult .ok s with msg := m } (s.putRxf m)))

/-- `VERIFY TXF` or `VERIFY RXF` (R106): a negative result is a result with status OK. -/
def execVerify (sel : BitVec 1) (s : State) : Host.Outcome State Fault Refusal :=
  accept s (reading (selected sel) s fun m =>
    .next (endCodec { bareResult .ok s with flag := verifyChecksum m } s))

/-- `cmd.op = 7`: "The block has no step for it: it is never accepted" (R82). -/
def execReserved7 (_s : State) : Host.Outcome State Fault Refusal := .refused .reservedOp

end Sys2Proof.Machine
end

