-- ==== Sys2Proof/Machine/Exchange.lean ====
section
/-! DEFINITION. The exchange commands and the transitions of the FSM (spec/41_exchange.md): T1 and T8 start a command, T4
and T5 take the answer to the response read, T9 and T10 the answers of a drain. -/

namespace Sys2Proof.Machine

/-- T1, IDLE to SEND (R135): mode, forced waiting bit, fresh checksum, RXF invalid, TWrite of the five bytes. -/
def startExchange (mode : Mode) (wb : BitVec 1) (m : Message) (s : State) : State :=
  ((((s.putMode mode).putTxf (requestMessage wb m)).dropRxf).goto .send
    (some (.twrite (encodeMessage (requestMessage wb m)))))

/-- `QUERY`: T1 with the waiting bit 1 (R132, R135). -/
def execQuery (s : State) : Host.Outcome State Fault Refusal :=
  accept s (reading .txf s fun m => .next (startExchange .query 1#1 m s))

/-- `WRITE`: T1 with the waiting bit 0 (R133, R135). -/
def execWrite (s : State) : Host.Outcome State Fault Refusal :=
  accept s (reading .txf s fun m => .next (startExchange .write 0#1 m s))

/-- `CLEAR`: T8, IDLE to DRAIN, TRead(25) issued (R134, R142). -/
def execClear (s : State) : Host.Outcome State Fault Refusal :=
  accept s (.next ((s.putMode .clear).goto .drain (some (.tread drainReadLen))))

/-- T4 and T5 in AWAIT_RESPONSE, on the answer to `TRead(n)` (R138, R139). -/
def responseRead (n : Nat) (s : State) : State :=
  match answeredBytes n s with
  | none => raiseExchange .timeout (readDone n s)
  | some bs => ((readDone n s).putRxb bs).goto .validate none

/-- T9 and T10 in DRAIN, on the answer to `TRead(n)`: data is discarded unseen and the next read issued; a timeout is the
successful end (R143, R144). -/
def drainRead (n : Nat) (s : State) : State :=
  match answeredBytes n s with
  | none => ((readDone n s).putStatus .ok).goto .done none
  | some _ => (readDone n s).goto .drain (some (.tread drainReadLen))

end Sys2Proof.Machine
end

