-- ==== Sys2Proof/Machine/Frames.lean ====
section
/-! DEFINITION. The frame classes (spec/30_encoding.md R76; log 8). A request frame runs in SEND, where it stands on the
transport port: its meaning is its transmission, T2 or T3 (R136, R137). A response frame runs in VALIDATE, where it stands
in RXB: its meaning is T6 (R140). -/

namespace Sys2Proof.Machine

/-- T2 and T3 in SEND, on the transport's answer to the TWrite of `bs` (R136, R137, R41, R46). -/
def frameSent (bs : List Byte) (s : State) : State :=
  match nextWriteAnswer s with
  | .ok => ((writeDone s).transmit bs).goto .awaitResponse (some (.tread frameLen))
  | .timeout sent => raiseExchange .timeout ((writeDone s).transmit (bs.take sent))

/-- T6 in VALIDATE for a response of 5 bytes: RXF gets it, then the tests in order (R140). -/
def responseChecked (m : Message) (s : State) : State :=
  if responseStatus s.mode m = .ok then ((s.putRxf m).putStatus .ok).goto .done none
  else raiseExchange (responseStatus s.mode m) (s.putRxf m)

/-- `QRY`: the request frame of a query is sent (R76, R136, R137). -/
def execQry (addr : Byte) (fc : BitVec 7) (data : Half) (ck : Byte) (s : State) : Host.Outcome State Fault Refusal :=
  frameDue .send s (.next (frameSent (frameBytes { addr := addr, wb := 1#1, fc := fc, data := data, ck := ck }) s))

/-- `WRT`: the request frame of a write is sent (R76, R136, R137). -/
def execWrt (addr : Byte) (fc : BitVec 7) (data : Half) (ck : Byte) (s : State) : Host.Outcome State Fault Refusal :=
  frameDue .send s (.next (frameSent (frameBytes { addr := addr, wb := 0#1, fc := fc, data := data, ck := ck }) s))

/-- `ACK`: a response with function code 0x06 is checked (R76, R140). -/
def execAck (addr : Byte) (wb : BitVec 1) (data : Half) (ck : Byte) (s : State) : Host.Outcome State Fault Refusal :=
  frameDue .validate s (.next (responseChecked { addr := addr, wb := wb, fc := ackCode, data := data, ck := ck } s))

/-- `NAK`: a response with function code 0x15 is checked (R76, R140). -/
def execNak (addr : Byte) (wb : BitVec 1) (data : Half) (ck : Byte) (s : State) : Host.Outcome State Fault Refusal :=
  frameDue .validate s (.next (responseChecked { addr := addr, wb := wb, fc := nakCode, data := data, ck := ck } s))

/-- `DAT`: a response with any other function code is checked (R76, R140). -/
def execDat (addr : Byte) (wb : BitVec 1) (fc : BitVec 7) (data : Half) (ck : Byte) (s : State) :
    Host.Outcome State Fault Refusal :=
  frameDue .validate s (.next (responseChecked { addr := addr, wb := wb, fc := fc, data := data, ck := ck } s))

end Sys2Proof.Machine
end

