-- ==== Sys2Proof/Machine/Dispatch.lean ====
section
/-! DEFINITION. One arm per constructor of Instr, each one direct call of its meaning. -/

namespace Sys2Proof.Machine

def exec (i : Instr) (s : State) : Host.Outcome State Fault Refusal :=
  match i with
  | .construct addr fc data wb => Sys2Proof.Machine.execConstruct addr fc data wb s
  | .encode => Sys2Proof.Machine.execEncode s
  | .decode bytes => Sys2Proof.Machine.execDecode bytes s
  | .verify sel => Sys2Proof.Machine.execVerify sel s
  | .query => Sys2Proof.Machine.execQuery s
  | .write => Sys2Proof.Machine.execWrite s
  | .clear => Sys2Proof.Machine.execClear s
  | .reserved7 => Sys2Proof.Machine.execReserved7 s
  | .simple fc data => Sys2Proof.Machine.execSimple fc data s
  | .qry addr fc data ck => Sys2Proof.Machine.execQry addr fc data ck s
  | .wrt addr fc data ck => Sys2Proof.Machine.execWrt addr fc data ck s
  | .ack addr wb data ck => Sys2Proof.Machine.execAck addr wb data ck s
  | .nak addr wb data ck => Sys2Proof.Machine.execNak addr wb data ck s
  | .dat addr wb fc data ck => Sys2Proof.Machine.execDat addr wb fc data ck s

end Sys2Proof.Machine
end

