-- ==== Sys2Proof/Machine/Fetch.lean ====
section
/-! DEFINITION. What a step does around an instruction (log 3): the tick of host and device, where the next instruction is
fetched, the steps that run none (a wait, T4, T5, T7, T9, T10), and a word placed where the next step fetches. -/

namespace Sys2Proof.Machine

/-- What host and device do in the coming step: the head of `ticks`; when none is left, no reset, a ready host, and a free
number of free bytes on the line (R27, R60; log 4). -/
def nextTick (s : State) : Tick :=
  match s.ticks with
  | t :: _ => t
  | [] => { reset := false, hostBusy := false, arrive := Config.lineArrival s.draws s.txlog }

/-- The state in which the block takes its step: the tick used up, its bytes on the line, a fresh free value. -/
def afterTick (s : State) : State :=
  { s with ticks := s.ticks.tail, line := s.line ++ (nextTick s).arrive, draws := s.draws + 1 }

/-- The states in which the block waits for the host (R186). -/
def waitsForHost (s : State) : Bool :=
  match s.fsm with
  | .idle => true
  | .done => true
  | .failed => true
  | .send => false
  | .awaitResponse => false
  | .validate => false
  | .drain => false

/-- The next instruction's raw word and the state with it taken: the record on the command port in IDLE (R23), the frame on
the transport port in SEND (R135), the bytes in RXB in VALIDATE (R140). -/
def fetch (s : State) : Option (Raw × State) :=
  match s.fsm with
  | .idle =>
    match s.cmds with
    | c :: rest => some (.command c, { s with cmds := rest })
    | [] => none
  | .send =>
    match s.request with
    | some (.twrite bs) => some (.request bs, s)
    | _ => none
  | .validate => some (.response s.rxb, s)
  | .awaitResponse => none
  | .done => none
  | .failed => none
  | .drain => none

/-- What was fetched decodes to nothing: in VALIDATE that is T6's failure `InvalidFrame` (R140, R174); elsewhere there is
no step (log 18). -/
def rejected (r : Reject) (s : State) : Host.Outcome State Fault Refusal :=
  if s.fsm = .validate then .next (raiseExchange .invalidFrame s) else .refused (.undecodable r)

/-- A step that runs no instruction: waiting for a command (log 21), the answer to a read (T4, T5, T9, T10), the host
taking the result (T7). -/
def advance (s : State) : Host.Outcome State Fault Refusal :=
  match s.fsm with
  | .idle => .next s
  | .awaitResponse =>
    match s.request with
    | some (.tread n) => .next (responseRead n s)
    | _ => .fault .noRequestOutstanding
  | .drain =>
    match s.request with
    | some (.tread n) => .next (drainRead n s)
    | _ => .fault .noRequestOutstanding
  | .done => .next (takeResult s)
  | .failed => .next (takeResult s)
  | .send => .fault .noRequestOutstanding
  | .validate => .fault .noRequestOutstanding

/-- A tick in which nothing happens but the block's step. -/
def quietTick : Tick := { reset := false, hostBusy := false, arrive := [] }

/-- The frame register a command needs valid to be accepted, made valid with the fields it has (R14, R203; log 15). -/
def readied (c : CmdRecord) (s : State) : State :=
  if c.op = 1#3 ∨ c.op = 4#3 ∨ c.op = 5#3 ∨ (c.op = 3#3 ∧ c.sel = 0#1) then s.putTxf s.txf.msg
  else if c.op = 3#3 then s.putRxf s.rxf.msg
  else s

/-- The command that sends a request frame: QUERY where the waiting bit is 1, else WRITE (R76). -/
def modeOfRequest (bs : List Byte) : Mode :=
  match decodeMessage bs with
  | some m => if m.wb = 1#1 then .query else .write
  | none => .query

/-- The state with a raw word where the next step fetches it, and no outside event before that step (log 15). -/
def placed (w : Raw) (s : State) : State :=
  match w with
  | .command c =>
    { (readied c ((s.putMode .none).goto .idle none)) with cmds := c :: s.cmds, ticks := quietTick :: s.ticks }
  | .request bs =>
    { (s.putMode (modeOfRequest bs)).goto .send (some (.twrite bs)) with
      ticks := quietTick :: s.ticks }
  | .response bs =>
    { ((s.putMode (if s.mode = .write then .write else .query)).putRxb bs).goto .validate none with
      ticks := quietTick :: s.ticks }

end Sys2Proof.Machine
end

