-- ==== Sys2Proof/Machine/Sequence.lean ====
section
/-! DEFINITION. The block's step after the tick of host and device (spec/10_state.md R10, spec/41_exchange.md R145). -/

namespace Sys2Proof.Machine

/-- The instruction in a fetched raw word is run; what decodes to none is rejected. -/
def runRaw (w : Raw) (s : State) : Host.Outcome State Fault Refusal :=
  match decodeRaw w with
  | .ok i => exec i s
  | .error r => rejected r s

/-- The step of a block that is neither reset nor waiting for a busy host: the fetched instruction, or the transition that
needs none. -/
def blockStep (s : State) : Host.Outcome State Fault Refusal :=
  match fetch s with
  | some (w, s') => runRaw w s'
  | none => advance s

/-- Reset comes before all else (R200, R201); a block that waits for a busy host does nothing. -/
def stepAfterTick (t : Tick) (s : State) : Host.Outcome State Fault Refusal :=
  if t.reset then .next (resetBlock s)
  else if t.hostBusy && waitsForHost s then .next s
  else blockStep s

end Sys2Proof.Machine
end

