-- ==== Sys2Proof/Machine/Step.lean ====
section
/-! DEFINITION. One step of the machine: a rendezvous of host, block and transport (spec/10_state.md R10), or a reset
(spec/70_reset_and_hazards.md R200). -/

namespace Sys2Proof.Machine

/-- One step of the machine: host and device do what the next tick says, then the block takes its step. -/
def step (s : State) : Host.Outcome State Fault Refusal := stepAfterTick (nextTick s) (afterTick s)

/-- `s` with a word of the opcode table placed where `step` fetches its next instruction (log 9, log 15). -/
def State.withFetchWord (s : State) (nbits w : Nat) : State := placed (rawOfTableWord nbits w) s

end Sys2Proof.Machine
end

