-- ==== Sys2Proof/Safety.lean ====
section
/-! DEFINITION. The terms claims use: the invariant of the block, its transition table (spec/41_exchange.md R145), the
big-step status of an exchange (R147), quiet runs, and what counts as a safe run. -/

namespace Sys2Proof.Machine

/-- The request that is outstanding in a state (R25): the encoded TXF in SEND, `TRead(5)` in AWAIT_RESPONSE, `TRead(25)` in
DRAIN, none elsewhere. -/
def expectedRequest (s : State) : Option Request :=
  match s.fsm with
  | .send => some (.twrite (encodeMessage s.txf.msg))
  | .awaitResponse => some (.tread frameLen)
  | .drain => some (.tread drainReadLen)
  | .idle => none
  | .validate => none
  | .done => none
  | .failed => none

/-- An exchange between T1 and the end of T6 (R17). -/
def State.exchanging (s : State) : Prop := s.fsm = .send ∨ s.fsm = .awaitResponse ∨ s.fsm = .validate

/-- QUERY or WRITE is the command in progress (R18). -/
def State.exchangeMode (s : State) : Prop := s.mode = .query ∨ s.mode = .write

/-- The waiting bit a mode forces (R135). -/
def forcedBit (mode : Mode) : BitVec 1 := if mode = .query then 1#1 else 0#1

/-- What holds in every state a run reaches. -/
structure Inv (s : State) : Prop where
  /-- R25: exactly the request the state names is outstanding -/
  request : s.request = expectedRequest s
  /-- R18: NONE is held exactly in IDLE -/
  modeNone : s.mode = .none ↔ s.fsm = .idle
  /-- R135: SEND, AWAIT_RESPONSE and VALIDATE belong to QUERY and WRITE -/
  exchangeMode : s.exchanging → s.exchangeMode
  /-- R142: DRAIN belongs to CLEAR -/
  drainMode : s.fsm = .drain → s.mode = .clear
  /-- R145: FAILED is never reached in mode CLEAR -/
  failedMode : s.fsm = .failed → s.mode ≠ .clear
  /-- R16: the stored checksum of a valid TXF agrees with its other fields -/
  txfChecksum : s.txf.v = true → verifyChecksum s.txf.msg = true
  /-- R150: during an exchange TXF is valid and has the waiting bit T1 wrote -/
  request_txf : s.exchangeMode → s.txf.v = true ∧ s.txf.msg.wb = forcedBit s.mode
  /-- R15: RXF is invalid from T1 until a successful decode -/
  noResponse : s.exchanging → s.rxf.v = false
  /-- R20: RXB holds at most RX_LEN_MAX bytes -/
  rxbLength : s.rxb.length ≤ Config.rxLenMax
  /-- R140, R144: DONE is reached with OK -/
  doneStatus : s.fsm = .done → s.status = .ok
  /-- R176: FAILED is reached with a CommunicationError -/
  failedStatus : s.fsm = .failed → s.status.isCommunicationError = true
  /-- R170: NotAcked is a WRITE's -/
  notAckedMode : s.fsm = .failed → s.status = .notAcked → s.mode = .write
  /-- R161: an exchange in DONE holds a checksum-valid response that is no NAK, and for WRITE is an ACK -/
  doneResponse : s.fsm = .done → s.exchangeMode →
    s.rxf.v = true ∧ verifyChecksum s.rxf.msg = true ∧ s.rxf.msg.fc ≠ nakCode ∧ (s.mode = .write → s.rxf.msg.fc = ackCode)
  /-- R182: after a failure RXF is valid exactly where a frame was decoded -/
  failedResponse : s.fsm = .failed →
    (s.rxf.v = true ↔ s.status = .badChecksum ∨ s.status = .nak ∨ s.status = .notAcked)

/-- The transition table of R145, codec commands and waits included: from which FSM state a step that is no reset may go
to which. -/
def transitionAllowed : FsmState → FsmState → Bool
  | .idle, .idle => true
  | .idle, .send => true
  | .idle, .drain => true
  | .send, .awaitResponse => true
  | .send, .failed => true
  | .awaitResponse, .validate => true
  | .awaitResponse, .failed => true
  | .validate, .done => true
  | .validate, .failed => true
  | .drain, .drain => true
  | .drain, .done => true
  | .done, .idle => true
  | .failed, .idle => true
  | .done, .done => true
  | .failed, .failed => true
  | _, _ => false

/-- The bytes the device puts on the line in step `k` of the run from `s` (R27, R60). -/
def State.arrives (s : State) (k : Nat) : List Byte :=
  match Host.Core.run Sys2Proof.core k s with
  | .next u => (nextTick u).arrive
  | .fault _ => []
  | .refused _ => []

/-- The line buffer as the response read of an exchange that starts in `s` finds it: with the bytes that arrived in the steps
of T1, of T2, and of the answer itself. -/
def State.lineAtResponse (s : State) : List Byte := s.line ++ s.arrives 0 ++ s.arrives 1 ++ s.arrives 2

/-- What the block is told of an answer to `TRead(n)` with the given line buffer (R42, R44). -/
def toldBytes (n : Nat) (line : List Byte) : ReadAnswer → Option (List Byte)
  | .data bs => some (bs.take Config.rxLenMax)
  | .timeout => none
  | .contract => if n ≤ line.length then some (line.take n) else none

/-- The big-step table of R147, on the bytes as they come from the transport. -/
def bigStepStatus (mode : Mode) (a1 : WriteAnswer) (a2 : Option (List Byte)) : Status :=
  match a1, a2 with
  | .timeout _, _ => .timeout
  | .ok, none => .timeout
  | .ok, some [b0, b1, b2, b3, b4] =>
    if b4 ≠ b0 ^^^ b1 ^^^ b2 ^^^ b3 then .badChecksum
    else if b1 &&& 0x7F#8 = 0x15#8 then .nak
    else if mode = .write ∧ b1 &&& 0x7F#8 ≠ 0x06#8 then .notAcked
    else .ok
  | .ok, some _ => .invalidFrame

/-- How many transitions an exchange takes: T1 T3 T7, T1 T2 T5 T7, or T1 T2 T4 T6 T7 (R147). -/
def bigStepCount (a1 : WriteAnswer) (a2 : Option (List Byte)) : Nat :=
  match a1, a2 with
  | .timeout _, _ => 3
  | .ok, none => 4
  | .ok, some _ => 5

/-- The request bytes that reach the line (R147, R46). -/
def bigStepSent (m : Message) : WriteAnswer → List Byte
  | .ok => encodeMessage m
  | .timeout sent => (encodeMessage m).take sent

/-- Neither a reset nor a busy host is scheduled; after the listed ticks none comes either (log 4). -/
def State.quiet (s : State) : Prop := ∀ t ∈ s.ticks, t.reset = false ∧ t.hostBusy = false

/-- The next step is neither a reset nor lost to a busy host. -/
def State.quietNow (s : State) : Prop := (nextTick s).reset = false ∧ (nextTick s).hostBusy = false

/-- A state is safe when its step does not stop with a fault. -/
def State.safe (s : State) : Prop := ∀ r, step s ≠ .fault r

end Sys2Proof.Machine
end

