-- ==== Sys2Proof/Certificates/Slice0/Obligations.lean ====
section
/-! DEFINITION. The statements for the provers. Each docstring names the rules of spec/ it formalises, and says where a
statement rests on a decision of the spec (D<n>) or on a choice of the model (log n). A result that is an equation with
`.next { s with ... }` states the frame too: every field not named is unchanged. -/

open Sys2Proof Sys2Proof.Machine

/-! ### The codec's laws -/

/-- R100, R102 over naturals of any size; the address test is D5 and the fresh checksum D6 (log 17). -/
def Obligations.ConstructOverNaturals : Prop :=
  ∀ a f d w : Nat,
    (w ≠ 0 → w ≠ 1 → construct a f d w = none) ∧
    (255 < a → construct a f d w = none) ∧
    (a ≤ 255 → (w = 0 ∨ w = 1) →
      ∃ m, construct a f d w = some m ∧ m.addr.toNat = a ∧ m.wb.toNat = w ∧ m.fc.toNat = f % 128 ∧
        m.data.toNat = d % 65536 ∧ m.ck = m.addr ^^^ functionByte m ^^^ dataHigh m.data ^^^ dataLow m.data)

/-- R70, R71, R72, R73, R101: the five bytes of an encoded Message as numbers, the data word high byte first. -/
def Obligations.EncodedBytesAsNumbers : Prop :=
  ∀ m : Message, ∃ ck : Byte,
    (encodeMessage m).map BitVec.toNat =
      [m.addr.toNat, m.wb.toNat * 128 + m.fc.toNat, m.data.toNat / 256, m.data.toNat % 256, ck.toNat] ∧
    ck.toNat = m.addr.toNat ^^^ (m.wb.toNat * 128 + m.fc.toNat) ^^^ (m.data.toNat / 256) ^^^ (m.data.toNat % 256)

/-- R101: a Message is checksum-valid exactly when the XOR of its five bytes is zero; the all-zero frame is. -/
def Obligations.ValidFrameXorsToZero : Prop :=
  (∀ m : Message, verifyChecksum m = true ↔ (frameBytes m).foldl (· ^^^ ·) 0#8 = 0#8) ∧
  ∃ m, decodeMessage [0#8, 0#8, 0#8, 0#8, 0#8] = some m ∧ verifyChecksum m = true

/-- R108: decoding what was encoded gives every field back, with the fresh checksum, and is checksum-valid; encoding what
was decoded gives the bytes back exactly when they are checksum-valid, and the first four always. -/
def Obligations.CodecRoundTrip : Prop :=
  (∀ m : Message, decodeMessage (encodeMessage m) = some { m with ck := checksum m }) ∧
  ∀ bs m, decodeMessage bs = some m →
    (encodeMessage m = bs ↔ verifyChecksum m = true) ∧ (encodeMessage m).take 4 = bs.take 4

/-- R109: changing exactly one of the five bytes of a checksum-valid frame gives a frame that fails. -/
def Obligations.SingleByteErrorDetected : Prop :=
  ∀ bs m, decodeMessage bs = some m → verifyChecksum m = true →
    ∀ (i : Nat) (b : Byte), i < 5 → bs[i]? ≠ some b →
      ∃ m', decodeMessage (bs.set i b) = some m' ∧ verifyChecksum m' = false

/-- R109: changing two different bytes of a checksum-valid frame by the same XOR difference gives a frame that passes. -/
def Obligations.EqualDoubleErrorPasses : Prop :=
  ∀ bs m, decodeMessage bs = some m → verifyChecksum m = true →
    ∀ (i j : Nat) (bi bj d : Byte), i ≠ j → bs[i]? = some bi → bs[j]? = some bj →
      ∃ m', decodeMessage ((bs.set i (bi ^^^ d)).set j (bj ^^^ d)) = some m' ∧ verifyChecksum m' = true

/-- R109, R50: every reordering of the bytes of a checksum-valid frame is checksum-valid. -/
def Obligations.ReorderedFramePasses : Prop :=
  ∀ bs bs' m, decodeMessage bs = some m → verifyChecksum m = true → bs.Perm bs' →
    ∃ m', decodeMessage bs' = some m' ∧ verifyChecksum m' = true

/-- R151: the request frames of a query and of a write for the same Message differ in bit 7 of byte 1 and of byte 4 only. -/
def Obligations.QueryAndWriteFramesDifferInBit7 : Prop :=
  ∀ m : Message,
    encodeMessage (requestMessage 1#1 m) =
      List.zipWith (· ^^^ ·) (encodeMessage (requestMessage 0#1 m)) [0#8, 0x80#8, 0#8, 0#8, 0x80#8]

/-! ### Encodings -/

/-- R71 to R74, R76, R80, R84: decoding the raw form of a well-formed instruction gives the instruction back, with every
operand; for the pseudo-command SIMPLE it gives its expansion. -/
def Obligations.DecodeOfEncodeIsExpansion : Prop :=
  ∀ i : Instr, i.wellFormed = true → decodeRaw (encodeInstr i) = .ok (expandPseudo i)

/-- R75, R76: the bytes of a frame are the only ones that decode to its instruction in its direction. -/
def Obligations.FrameEncodingIsUnique : Prop :=
  (∀ bs i, decodeRaw (.request bs) = .ok i → encodeInstr i = .request bs) ∧
  ∀ bs i, decodeRaw (.response bs) = .ok i → encodeInstr i = .response bs

/-- R23, R76: whatever decodes is well-formed. -/
def Obligations.DecodedIsWellFormed : Prop :=
  ∀ w i, decodeRaw w = .ok i → i.wellFormed = true

/-- R75, R76, R77: five received bytes are ACK, NAK or DAT by the low 7 bits of byte 1 alone, five sent bytes QRY or WRT by
its top bit; any other number of bytes is no frame. -/
def Obligations.FrameClassOfBytes : Prop :=
  (∀ b0 b1 b2 b3 b4 : Byte,
    ((b1.toNat % 128 = 6 ↔ ∃ wb d, decodeRaw (.response [b0, b1, b2, b3, b4]) = .ok (.ack b0 wb d b4)) ∧
     (b1.toNat % 128 = 21 ↔ ∃ wb d, decodeRaw (.response [b0, b1, b2, b3, b4]) = .ok (.nak b0 wb d b4)) ∧
     (b1.toNat % 128 ≠ 6 ∧ b1.toNat % 128 ≠ 21 ↔
      ∃ wb fc d, decodeRaw (.response [b0, b1, b2, b3, b4]) = .ok (.dat b0 wb fc d b4))) ∧
    (128 ≤ b1.toNat ↔ ∃ fc d, decodeRaw (.request [b0, b1, b2, b3, b4]) = .ok (.qry b0 fc d b4)) ∧
    (b1.toNat < 128 ↔ ∃ fc d, decodeRaw (.request [b0, b1, b2, b3, b4]) = .ok (.wrt b0 fc d b4))) ∧
  ∀ bs : List Byte, bs.length ≠ 5 →
    decodeRaw (.response bs) = .error .notAFrame ∧ decodeRaw (.request bs) = .error .notAFrame

/-- R80 (numbers: D3): which command each operation code selects, with its operand signals. -/
def Obligations.CommandOfOperationCode : Prop :=
  ∀ c : CmdRecord,
    (c.op.toNat = 0 → decodeRaw (.command c) = .ok (.construct c.addr c.fc c.data c.wb)) ∧
    (c.op.toNat = 1 → decodeRaw (.command c) = .ok .encode) ∧
    (c.op.toNat = 2 → c.bytes.length = c.len.toNat → decodeRaw (.command c) = .ok (.decode c.bytes)) ∧
    (c.op.toNat = 3 → decodeRaw (.command c) = .ok (.verify c.sel)) ∧
    (c.op.toNat = 4 → decodeRaw (.command c) = .ok .query) ∧
    (c.op.toNat = 5 → decodeRaw (.command c) = .ok .write) ∧
    (c.op.toNat = 6 → decodeRaw (.command c) = .ok .clear) ∧
    (c.op.toNat = 7 → decodeRaw (.command c) = .ok .reserved7)

/-- Frames of the spec's test vectors, written out byte by byte from R71, decode to what they stand for (R76). The last two
clauses rest on the model's choice of how a table word is read (log 9; FRAME40 is R9, D19; 5 is WRITE's number in R80, D3). -/
def Obligations.VectorFramesDecode : Prop :=
  decodeRaw (.request [0x12#8, 0xC1#8, 0x00#8, 0x00#8, 0xD3#8]) = .ok (.qry 0x12#8 0x41#7 0#16 0xD3#8) ∧
  decodeRaw (.request [0x12#8, 0x41#8, 0x01#8, 0xF4#8, 0xA6#8]) = .ok (.wrt 0x12#8 0x41#7 500#16 0xA6#8) ∧
  decodeRaw (.response [0x12#8, 0x86#8, 0x00#8, 0x00#8, 0x94#8]) = .ok (.ack 0x12#8 1#1 0#16 0x94#8) ∧
  decodeRaw (.response [0x12#8, 0x15#8, 0x00#8, 0x00#8, 0x07#8]) = .ok (.nak 0x12#8 0#1 0#16 0x07#8) ∧
  decodeRaw (.response [0x12#8, 0x10#8, 0x01#8, 0xF4#8, 0xF7#8]) = .ok (.dat 0x12#8 0#1 0x10#7 500#16 0xF7#8) ∧
  decodeTableWord 40 0x12C10000D3 = some (.qry 0x12#8 0x41#7 0#16 0xD3#8) ∧
  decodeTableWord 8 5 = some .write

/-- R17, R18, R19, R170 (numbers: D8, D9): the numbers of the FSM states, modes and status codes. -/
def Obligations.CodeNumbers : Prop :=
  [FsmState.idle, .send, .awaitResponse, .validate, .done, .failed, .drain].map FsmState.code =
    [0#3, 1#3, 2#3, 3#3, 4#3, 5#3, 6#3] ∧
  [Mode.none, .query, .write, .clear].map Mode.code = [0#2, 1#2, 2#2, 3#2] ∧
  [Status.ok, .invalidField, .invalidFrameLength, .timeout, .invalidFrame, .badChecksum, .nak, .notAcked].map Status.code =
    [0#4, 1#4, 2#4, 3#4, 4#4, 5#4, 6#4, 7#4]

/-! ### The codec commands -/

/-- R102, R171, R176, R111: CONSTRUCT in IDLE fills TXF and returns it, or with a waiting bit above 1 raises InvalidField
and leaves everything but STATUS and the result. The stored checksum is D6. -/
def Obligations.ConstructResult : Prop :=
  ∀ (s : State) (addr fc : Byte) (data : Half) (wb : Byte), s.fsm = .idle →
    (wb.toNat ≤ 1 →
      ∃ (m : Message) (r : Result),
        m.addr = addr ∧ m.wb.toNat = wb.toNat ∧ m.fc.toNat = fc.toNat % 128 ∧ m.data = data ∧
        m.ck = m.addr ^^^ functionByte m ^^^ dataHigh m.data ^^^ dataLow m.data ∧ r.status = .ok ∧ r.msg = m ∧
        exec (.construct addr fc data wb) s =
          .next { s with txf := { v := true, msg := m }, status := .ok, results := s.results ++ [r] }) ∧
    (1 < wb.toNat →
      ∃ r : Result, r.status = .invalidField ∧
        exec (.construct addr fc data wb) s =
          .next { s with status := .invalidField, results := s.results ++ [r] })

/-- R84, R103: SIMPLE in IDLE fills TXF with DEFAULT_ADDRESS and waiting bit 0, its raw form is CONSTRUCT's, and it does
what that CONSTRUCT does. -/
def Obligations.SimpleResult : Prop :=
  ∀ (s : State) (fc : Byte) (data : Half), s.fsm = .idle →
    (∃ (m : Message) (r : Result),
      m.addr = Config.defaultAddress ∧ m.wb = 0#1 ∧ m.fc.toNat = fc.toNat % 128 ∧ m.data = data ∧
      r.status = .ok ∧ r.msg = m ∧
      exec (.simple fc data) s =
        .next { s with txf := { v := true, msg := m }, status := .ok, results := s.results ++ [r] }) ∧
    encodeInstr (.simple fc data) = encodeInstr (.construct Config.defaultAddress fc data 0#8) ∧
    exec (.simple fc data) s = exec (.construct Config.defaultAddress fc data 0#8) s

/-- R104, R111: ENCODE in IDLE with TXF valid returns the five bytes with a fresh checksum, stores that checksum in TXF,
and changes nothing else but STATUS. -/
def Obligations.EncodeResult : Prop :=
  ∀ s : State, s.fsm = .idle → s.txf.v = true →
    ∃ r : Result, r.status = .ok ∧
      r.bytes = [s.txf.msg.addr, functionByte s.txf.msg, dataHigh s.txf.msg.data, dataLow s.txf.msg.data,
        checksum s.txf.msg] ∧
      exec .encode s =
        .next { s with
          txf := { v := true, msg := { s.txf.msg with ck := checksum s.txf.msg } }
          status := .ok
          results := s.results ++ [r] }

/-- R105, R172, R111: DECODE in IDLE of exactly 5 bytes fills RXF from exactly their bits, the checksum as received;
any other length raises InvalidFrameLength and leaves RXF. -/
def Obligations.DecodeResult : Prop :=
  ∀ s : State, s.fsm = .idle →
    (∀ b0 b1 b2 b3 b4 : Byte, ∃ (m : Message) (r : Result),
      m.addr = b0 ∧ m.wb.toNat = b1.toNat / 128 ∧ m.fc.toNat = b1.toNat % 128 ∧
      m.data.toNat = b2.toNat * 256 + b3.toNat ∧ m.ck = b4 ∧ r.status = .ok ∧ r.msg = m ∧
      exec (.decode [b0, b1, b2, b3, b4]) s =
        .next { s with rxf := { v := true, msg := m }, status := .ok, results := s.results ++ [r] }) ∧
    ∀ bs : List Byte, bs.length ≠ 5 →
      ∃ r : Result, r.status = .invalidFrameLength ∧
        exec (.decode bs) s = .next { s with status := .invalidFrameLength, results := s.results ++ [r] }

/-- R106, R22: VERIFY in IDLE of a valid register returns whether the stored checksum equals the XOR of the other fields,
with status OK either way, and writes STATUS only. -/
def Obligations.VerifyResult : Prop :=
  ∀ (s : State) (sel : BitVec 1) (F : FrameReg), s.fsm = .idle → F = (if sel = 0#1 then s.txf else s.rxf) → F.v = true →
    ∃ r : Result, r.status = .ok ∧
      (r.flag = true ↔
        F.msg.ck = F.msg.addr ^^^ functionByte F.msg ^^^ dataHigh F.msg.data ^^^ dataLow F.msg.data) ∧
      exec (.verify sel) s = .next { s with status := .ok, results := s.results ++ [r] }

/-- R14 (D14): in IDLE a command that reads an invalid frame register is not accepted. -/
def Obligations.InvalidRegisterNotRead : Prop :=
  ∀ s : State, s.fsm = .idle →
    (s.txf.v = false →
      exec .encode s = .refused (.registerInvalid .txf) ∧ exec .query s = .refused (.registerInvalid .txf) ∧
      exec .write s = .refused (.registerInvalid .txf) ∧ exec (.verify 0#1) s = .refused (.registerInvalid .txf)) ∧
    (s.rxf.v = false → exec (.verify 1#1) s = .refused (.registerInvalid .rxf))

/-- R82 (D14): operation code 7 has no step, in no state. -/
def Obligations.ReservedCodeHasNoStep : Prop :=
  ∀ s : State, exec .reserved7 s = .refused .reservedOp

/-- R23, R111, R131: outside IDLE no command is accepted. -/
def Obligations.CommandsNeedIdle : Prop :=
  ∀ s : State, s.fsm ≠ .idle →
    (∀ addr fc data wb, exec (.construct addr fc data wb) s = .refused .portNotReady) ∧
    (∀ fc data, exec (.simple fc data) s = .refused .portNotReady) ∧
    exec .encode s = .refused .portNotReady ∧
    (∀ bs, exec (.decode bs) s = .refused .portNotReady) ∧
    (∀ sel, exec (.verify sel) s = .refused .portNotReady) ∧
    exec .query s = .refused .portNotReady ∧
    exec .write s = .refused .portNotReady ∧
    exec .clear s = .refused .portNotReady

/-! ### The exchange commands and the frames -/

/-- R135, T1: QUERY and WRITE in IDLE with TXF valid. RXF becomes invalid; an invalid register holds no value, so the
statement says nothing of its fields. -/
def Obligations.ExchangeStarts : Prop :=
  ∀ s : State, s.fsm = .idle → s.txf.v = true →
    (∀ m : Message, m = { s.txf.msg with wb := 1#1, ck := checksum { s.txf.msg with wb := 1#1 } } →
      ∃ F : FrameReg, F.v = false ∧
        exec .query s =
          .next { s with
            mode := .query
            txf := { v := true, msg := m }
            rxf := F
            request := some (.twrite [m.addr, functionByte m, dataHigh m.data, dataLow m.data, checksum m])
            fsm := .send }) ∧
    (∀ m : Message, m = { s.txf.msg with wb := 0#1, ck := checksum { s.txf.msg with wb := 0#1 } } →
      ∃ F : FrameReg, F.v = false ∧
        exec .write s =
          .next { s with
            mode := .write
            txf := { v := true, msg := m }
            rxf := F
            request := some (.twrite [m.addr, functionByte m, dataHigh m.data, dataLow m.data, checksum m])
            fsm := .send })

/-- R142, T8 (D9): CLEAR in IDLE. -/
def Obligations.ClearStarts : Prop :=
  ∀ s : State, s.fsm = .idle →
    exec .clear s = .next { s with mode := .clear, request := some (.tread 25), fsm := .drain }

/-- R136, R41, T2: a request frame of either class, in SEND, on the transport's `ok`: all five bytes are on the line and
`TRead(5)` is issued. That a frame is run as an instruction is the model's choice (log 8). -/
def Obligations.RequestFrameSent : Prop :=
  ∀ (s : State) (addr : Byte) (fc : BitVec 7) (data : Half) (ck : Byte), s.fsm = .send → nextWriteAnswer s = .ok →
    (∀ m : Message, m = { addr := addr, wb := 1#1, fc := fc, data := data, ck := ck } →
      exec (.qry addr fc data ck) s =
        .next { s with
          writeAnswers := s.writeAnswers.tail
          txlog := s.txlog ++ [addr, functionByte m, dataHigh data, dataLow data, ck]
          request := some (.tread 5)
          fsm := .awaitResponse }) ∧
    (∀ m : Message, m = { addr := addr, wb := 0#1, fc := fc, data := data, ck := ck } →
      exec (.wrt addr fc data ck) s =
        .next { s with
          writeAnswers := s.writeAnswers.tail
          txlog := s.txlog ++ [addr, functionByte m, dataHigh data, dataLow data, ck]
          request := some (.tread 5)
          fsm := .awaitResponse })

/-- R137, R46 (D12), T3: a request frame of either class, in SEND, on the transport's `timeout`: a prefix of its bytes is on
the line, the exchange fails with Timeout and no read is issued (log 8). -/
def Obligations.RequestFrameTimesOut : Prop :=
  ∀ (s : State) (addr : Byte) (fc : BitVec 7) (data : Half) (ck : Byte) (sent : Nat), s.fsm = .send →
    nextWriteAnswer s = .timeout sent →
    (∀ m : Message, m = { addr := addr, wb := 1#1, fc := fc, data := data, ck := ck } →
      exec (.qry addr fc data ck) s =
        .next { s with
          writeAnswers := s.writeAnswers.tail
          txlog := s.txlog ++ [addr, functionByte m, dataHigh data, dataLow data, ck].take sent
          status := .timeout
          request := none
          fsm := .failed }) ∧
    (∀ m : Message, m = { addr := addr, wb := 0#1, fc := fc, data := data, ck := ck } →
      exec (.wrt addr fc data ck) s =
        .next { s with
          writeAnswers := s.writeAnswers.tail
          txlog := s.txlog ++ [addr, functionByte m, dataHigh data, dataLow data, ck].take sent
          status := .timeout
          request := none
          fsm := .failed })

/-- R140, R149: a checksum-valid ACK frame in VALIDATE is success, for WRITE and for QUERY (log 8). -/
def Obligations.AckFrameSucceeds : Prop :=
  ∀ (s : State) (addr : Byte) (wb : BitVec 1) (data : Half) (ck : Byte) (m : Message), s.fsm = .validate →
    m = { addr := addr, wb := wb, fc := 0x06#7, data := data, ck := ck } →
    ck = addr ^^^ functionByte m ^^^ dataHigh data ^^^ dataLow data →
    exec (.ack addr wb data ck) s =
      .next { s with rxf := { v := true, msg := m }, status := .ok, request := none, fsm := .done }

/-- R140, R177: a checksum-valid NAK frame in VALIDATE fails with Nak, in either mode (log 8). -/
def Obligations.NakFrameFails : Prop :=
  ∀ (s : State) (addr : Byte) (wb : BitVec 1) (data : Half) (ck : Byte) (m : Message), s.fsm = .validate →
    m = { addr := addr, wb := wb, fc := 0x15#7, data := data, ck := ck } →
    ck = addr ^^^ functionByte m ^^^ dataHigh data ^^^ dataLow data →
    exec (.nak addr wb data ck) s =
      .next { s with rxf := { v := true, msg := m }, status := .nak, request := none, fsm := .failed }

/-- R140, R178: a checksum-valid DAT frame in VALIDATE is a QUERY's success and a WRITE's NotAcked (log 8). -/
def Obligations.DatFrameByMode : Prop :=
  ∀ (s : State) (addr : Byte) (wb : BitVec 1) (fc : BitVec 7) (data : Half) (ck : Byte) (m : Message), s.fsm = .validate →
    fc ≠ 0x06#7 → fc ≠ 0x15#7 → m = { addr := addr, wb := wb, fc := fc, data := data, ck := ck } →
    ck = addr ^^^ functionByte m ^^^ dataHigh data ^^^ dataLow data →
    (s.mode ≠ .write →
      exec (.dat addr wb fc data ck) s =
        .next { s with rxf := { v := true, msg := m }, status := .ok, request := none, fsm := .done }) ∧
    (s.mode = .write →
      exec (.dat addr wb fc data ck) s =
        .next { s with rxf := { v := true, msg := m }, status := .notAcked, request := none, fsm := .failed })

/-- R140, R175, R179: a response frame of any class whose checksum is wrong fails with BadChecksum, whatever its function
code; RXF holds it (log 8). -/
def Obligations.BadChecksumComesFirst : Prop :=
  ∀ (s : State) (m : Message), s.fsm = .validate →
    m.ck ≠ m.addr ^^^ functionByte m ^^^ dataHigh m.data ^^^ dataLow m.data →
    ∀ i : Instr,
      (i = .ack m.addr m.wb m.data m.ck ∧ m.fc = 0x06#7) ∨ (i = .nak m.addr m.wb m.data m.ck ∧ m.fc = 0x15#7) ∨
      i = .dat m.addr m.wb m.fc m.data m.ck →
      exec i s = .next { s with rxf := { v := true, msg := m }, status := .badChecksum, request := none, fsm := .failed }

/-- R136, R140 (log 8): a frame has no step outside the FSM state that sends or checks it. -/
def Obligations.FramesNeedTheirState : Prop :=
  ∀ s : State,
    (s.fsm ≠ .send →
      (∀ addr fc data ck, exec (.qry addr fc data ck) s = .refused .frameNotDue) ∧
      ∀ addr fc data ck, exec (.wrt addr fc data ck) s = .refused .frameNotDue) ∧
    (s.fsm ≠ .validate →
      (∀ addr wb data ck, exec (.ack addr wb data ck) s = .refused .frameNotDue) ∧
      (∀ addr wb data ck, exec (.nak addr wb data ck) s = .refused .frameNotDue) ∧
      ∀ addr wb fc data ck, exec (.dat addr wb fc data ck) s = .refused .frameNotDue)

/-! ### One step -/

/-- R23, R135, R140 (log 3, log 8): a step runs what the command port, the transport port or RXB holds, after the tick of
host and device. -/
def Obligations.StepRunsTheDecodedInstruction : Prop :=
  ∀ (s s1 : State) (i : Instr),
    s1 = { s with ticks := s.ticks.tail, line := s.line ++ (nextTick s).arrive, draws := s.draws + 1 } →
    (nextTick s).reset = false →
    (∀ c rest, s.fsm = .idle → (nextTick s).hostBusy = false → s.cmds = c :: rest → decodeRaw (.command c) = .ok i →
      step s = exec i { s1 with cmds := rest }) ∧
    (∀ bs, s.fsm = .send → s.request = some (.twrite bs) → decodeRaw (.request bs) = .ok i → step s = exec i s1) ∧
    (s.fsm = .validate → decodeRaw (.response s.rxb) = .ok i → step s = exec i s1)

/-- R136, R137, R41, T2 and T3: a step in SEND takes the transport's answer to the TWrite. On `ok` all of the request is on
the line and `TRead(5)` is issued; on `timeout` no read is issued. How much of it then reached the line is not this
statement's matter (log 7), and `l` stands for it. -/
def Obligations.SendStep : Prop :=
  ∀ (s : State) (b0 b1 b2 b3 b4 : Byte), s.fsm = .send → s.request = some (.twrite [b0, b1, b2, b3, b4]) →
    (nextTick s).reset = false →
    (nextWriteAnswer (afterTick s) = .ok →
      step s =
        .next { afterTick s with
          writeAnswers := s.writeAnswers.tail
          txlog := s.txlog ++ [b0, b1, b2, b3, b4]
          request := some (.tread 5)
          fsm := .awaitResponse }) ∧
    (∀ sent, nextWriteAnswer (afterTick s) = .timeout sent →
      ∃ l : List Byte,
        step s =
          .next { afterTick s with
            writeAnswers := s.writeAnswers.tail, txlog := l, status := .timeout, request := none, fsm := .failed })

/-- R138, R139, T4 and T5: a step in AWAIT_RESPONSE takes the transport's answer. What a read does to the line
(`readDone`) is stated in ReadConsumesTheLine. -/
def Obligations.AwaitStep : Prop :=
  ∀ (s : State) (n : Nat), s.fsm = .awaitResponse → s.request = some (.tread n) → (nextTick s).reset = false →
    (∀ bs, answeredBytes n (afterTick s) = some bs →
      step s =
        .next { readDone n (afterTick s) with rxb := bs, request := none, fsm := .validate }) ∧
    (answeredBytes n (afterTick s) = none →
      step s =
        .next { readDone n (afterTick s) with status := .timeout, request := none, fsm := .failed })

/-- R140, R174, R147, T6: a step in VALIDATE sets STATUS by the first test that fails, on the bytes of RXB; RXF is written
exactly when there are 5 of them. -/
def Obligations.ValidateStep : Prop :=
  ∀ s : State, s.fsm = .validate → (nextTick s).reset = false →
    (s.rxb.length ≠ 5 →
      step s = .next { afterTick s with status := .invalidFrame, request := none, fsm := .failed }) ∧
    ∀ b0 b1 b2 b3 b4 K, s.rxb = [b0, b1, b2, b3, b4] → K = bigStepStatus s.mode .ok (some s.rxb) →
      ∃ m, decodeMessage s.rxb = some m ∧
        step s =
          .next { afterTick s with
            rxf := { v := true, msg := m }
            status := K
            request := none
            fsm := if K = .ok then .done else .failed }

/-- R143, R144, T9 and T10: a step in DRAIN discards what the transport hands over, unseen and of any length, and reads
again, or ends with OK at the timeout. -/
def Obligations.DrainStep : Prop :=
  ∀ (s : State) (n : Nat), s.fsm = .drain → s.request = some (.tread n) → (nextTick s).reset = false →
    (∀ bs, answeredBytes n (afterTick s) = some bs →
      step s = .next { readDone n (afterTick s) with request := some (.tread 25), fsm := .drain }) ∧
    (answeredBytes n (afterTick s) = none →
      step s = .next { readDone n (afterTick s) with status := .ok, request := none, fsm := .done })

/-- R141, R24, T7 (D9; the host may be busy first, log 11): from DONE or FAILED the host gets STATUS, and a QUERY's response
Message where STATUS is OK; the block is back in IDLE. -/
def Obligations.TakeResultStep : Prop :=
  ∀ s : State, s.fsm = .done ∨ s.fsm = .failed → s.quietNow →
    ∃ r : Result, r.status = s.status ∧ (s.mode = .query → s.status = .ok → r.msg = s.rxf.msg) ∧
      step s =
        .next { afterTick s with results := s.results ++ [r], mode := .none, request := none, fsm := .idle }

/-- R10, R160, R186 (log 11, log 21): a block in IDLE with nothing on the port, or waiting for a busy host, waits: the step
changes nothing of the block. -/
def Obligations.WaitingChangesNothing : Prop :=
  ∀ s : State, (nextTick s).reset = false →
    (s.fsm = .idle ∧ s.cmds = []) ∨
      ((s.fsm = .idle ∨ s.fsm = .done ∨ s.fsm = .failed) ∧ (nextTick s).hostBusy = true) →
    step s = .next { s with ticks := s.ticks.tail, line := s.line ++ (nextTick s).arrive, draws := s.draws + 1 }

/-- R42, R44, R45 (D11), R52: what a TRead answers and what it does to the line buffer (log 5, log 6). -/
def Obligations.ReadConsumesTheLine : Prop :=
  ∀ (s : State) (n : Nat),
    (nextReadAnswer s = .timeout → answeredBytes n s = none ∧ (readDone n s).line = []) ∧
    (nextReadAnswer s = .contract → n ≤ s.line.length →
      answeredBytes n s = some (s.line.take n) ∧ (readDone n s).line = s.line.drop n) ∧
    (nextReadAnswer s = .contract → s.line.length < n → answeredBytes n s = none ∧ (readDone n s).line = []) ∧
    (∀ bs, nextReadAnswer s = .data bs → bs.length ≤ Config.rxLenMax → answeredBytes n s = some bs) ∧
    (∀ front rest, nextReadAnswer s = .data front → front.length ≤ Config.rxLenMax → s.line = front ++ rest →
      (readDone n s).line = rest)

/-- R29, R200, R201 (D15; log 1, log 12): a step with reset asserted, in any state and in the middle of a command, gives the
block its reset values, hands over no result and takes no command; at most a prefix of a TWrite in progress is sent, and the
line buffer keeps what it held, with a read in progress too (R202). -/
def Obligations.ResetStep : Prop :=
  ∀ s : State, (nextTick s).reset = true →
    ∃ t, step s = .next t ∧ t.fsm = .idle ∧ t.mode = .none ∧ t.status = .ok ∧ t.txf.v = false ∧ t.rxf.v = false ∧
      t.request = none ∧ t.results = s.results ∧ t.cmds = s.cmds ∧
      t.writeAnswers = s.writeAnswers ∧ t.readAnswers = s.readAnswers ∧
      ((∃ bs k, s.request = some (.twrite bs) ∧ t.txlog = s.txlog ++ bs.take k) ∨
        ((∀ bs, s.request ≠ some (.twrite bs)) ∧ t.txlog = s.txlog)) ∧
      t.line = s.line ++ (nextTick s).arrive

/-- R29, R200 (D15): the values the spec gives for reset. -/
def Obligations.ResetValues : Prop :=
  State.reset.fsm = .idle ∧ State.reset.mode = .none ∧ State.reset.status = .ok ∧ State.reset.txf.v = false ∧
  State.reset.rxf.v = false ∧ State.reset.request = none ∧ State.reset.results = []

/-! ### Rules of the whole machine -/

/-- R145: no step but a reset makes a transition that the table does not hold. -/
def Obligations.TransitionTableIsComplete : Prop :=
  ∀ s t : State, step s = .next t → (nextTick s).reset = false → transitionAllowed s.fsm t.fsm = true

/-- R160: a step outside IDLE neither takes nor loses a command. -/
def Obligations.CommandsWaitOnThePort : Prop :=
  ∀ s t : State, step s = .next t → s.fsm ≠ .idle → t.cmds = s.cmds

/-- R24, R160, R183: a step hands over at most one result record, and where it does, the record's status is STATUS and the
block is in IDLE. -/
def Obligations.AtMostOneResultPerStep : Prop :=
  ∀ s t : State, step s = .next t →
    t.results = s.results ∨ ∃ r : Result, t.results = s.results ++ [r] ∧ r.status = t.status ∧ t.fsm = .idle

/-- R15 (D13): who writes the frame registers. Without a reset, the address, function code, data and valid bit of TXF change
only by the command CONSTRUCT, its waiting bit only by CONSTRUCT and at T1 of QUERY and WRITE, anything of it only by
CONSTRUCT, ENCODE and at T1; RXF changes only by DECODE, at T1, and at T6. -/
def Obligations.FrameRegisterWriters : Prop :=
  ∀ s t : State, step s = .next t → (nextTick s).reset = false →
    ((∀ c rest, s.fsm = .idle → s.cmds = c :: rest → c.op ≠ 0#3) →
      t.txf.msg.addr = s.txf.msg.addr ∧ t.txf.msg.fc = s.txf.msg.fc ∧ t.txf.msg.data = s.txf.msg.data ∧
      t.txf.v = s.txf.v) ∧
    ((∀ c rest, s.fsm = .idle → s.cmds = c :: rest → c.op ≠ 0#3 ∧ c.op ≠ 4#3 ∧ c.op ≠ 5#3) →
      t.txf.msg.wb = s.txf.msg.wb) ∧
    ((∀ c rest, s.fsm = .idle → s.cmds = c :: rest → c.op ≠ 0#3 ∧ c.op ≠ 1#3 ∧ c.op ≠ 4#3 ∧ c.op ≠ 5#3) →
      t.txf = s.txf) ∧
    (s.fsm ≠ .validate → (∀ c rest, s.fsm = .idle → s.cmds = c :: rest → c.op ≠ 2#3 ∧ c.op ≠ 4#3 ∧ c.op ≠ 5#3) →
      t.rxf = s.rxf)

/-- R40, R51, R153: what reaches the line in a step is a prefix of the outstanding TWrite, or nothing. That a write that timed
out has sent a prefix is the spec's choice D12 (R46; log 7); that the bytes of a write abandoned by a reset go out in the
step of the reset and not later is the model's (log 12). -/
def Obligations.OnlyTheRequestReachesTheLine : Prop :=
  ∀ s t : State, step s = .next t →
    t.txlog = s.txlog ∨ ∃ bs k, s.request = some (.twrite bs) ∧ t.txlog = s.txlog ++ bs.take k

/-- The invariant holds after reset. -/
def Obligations.ResetMeetsTheInvariant : Prop := Inv State.reset

/-- R16, R18, R20, R25, R145, R150, R161, R182: the invariant of Safety.lean is kept by every step. Its clause that a valid TXF
is checksum-valid is a choice: it rests on the checksum CONSTRUCT stores (D6; log 17). -/
def Obligations.EveryStepKeepsTheInvariant : Prop :=
  ∀ s t : State, Inv s → step s = .next t → Inv t

/-- R25: where the invariant holds, no step ends in the model's fault. -/
def Obligations.NoFaultUnderTheInvariant : Prop := ∀ s : State, Inv s → s.safe

/-- R43: where the invariant holds, a block that waits for the transport, checks a response or has ended a command always
has a step: it is never refused. -/
def Obligations.BusyBlockAlwaysSteps : Prop :=
  ∀ s : State, Inv s → s.fsm ≠ .idle → ∃ t, step s = .next t

/-- R161: under the invariant, an exchange that hands over OK has received a checksum-valid frame that is no NAK, and for a
WRITE an ACK; a QUERY's result is that frame; every other outcome is a CommunicationError. -/
def Obligations.ExchangeGuarantee : Prop :=
  ∀ s : State, Inv s → s.fsm = .done ∨ s.fsm = .failed → s.exchangeMode → s.quietNow →
    ∃ t r, step s = .next t ∧ t.results = s.results ++ [r] ∧
      (r.status = .ok →
        s.rxf.v = true ∧ s.rxf.msg.ck = checksum s.rxf.msg ∧ s.rxf.msg.fc ≠ 0x15#7 ∧
        (s.mode = .write → s.rxf.msg.fc = 0x06#7) ∧ (s.mode = .query → r.msg = s.rxf.msg)) ∧
      (r.status ≠ .ok → r.status.isCommunicationError = true)

/-! ### Whole commands -/

/-- R147, R150, R182, R132, R133, R179: QUERY and WRITE as a whole, on scripted answers of either side, the answer of a
transport that keeps its contract included: the transitions compute the big-step table, column by column. `a` is what the
block is told of the read. What the line loses: nothing at a write timeout, all that was buffered at a read timeout (D11;
log 6), the bytes handed over where they stood at its front (log 5). The prefix sent at a write timeout is D12 (log 7), the
quiet schedule log 4. -/
def Obligations.ExchangeBigStep : Prop :=
  ∀ (s : State) (c : CmdRecord) (rest : List CmdRecord) (mode : Mode) (a1 : WriteAnswer) (a2 : ReadAnswer)
    (ws : List WriteAnswer) (rs : List ReadAnswer) (m : Message) (a : Option (List Byte)) (K : Status),
    s.fsm = .idle → s.quiet → s.cmds = c :: rest → (c.op = 4#3 ∧ mode = .query) ∨ (c.op = 5#3 ∧ mode = .write) →
    s.txf.v = true → s.writeAnswers = a1 :: ws → s.readAnswers = a2 :: rs →
    m = requestMessage (forcedBit mode) s.txf.msg → a = toldBytes 5 s.lineAtResponse a2 → K = bigStepStatus mode a1 a →
    ∃ (t : State) (r : Result),
      Host.Core.run Sys2Proof.core (bigStepCount a1 a) s = .next t ∧
      t.fsm = .idle ∧ t.mode = .none ∧ t.request = none ∧ t.cmds = rest ∧ t.status = K ∧
      t.results = s.results ++ [r] ∧ r.status = K ∧
      (mode = .query → K = .ok → ∃ bs, a = some bs ∧ decodeMessage bs = some r.msg) ∧
      t.txf = { v := true, msg := m } ∧ t.txlog = s.txlog ++ bigStepSent m a1 ∧
      (t.rxf.v = true ↔ K = .ok ∨ K = .badChecksum ∨ K = .nak ∨ K = .notAcked) ∧
      (t.rxf.v = true → ∃ bs, a = some bs ∧ decodeMessage bs = some t.rxf.msg) ∧
      t.readAnswers = (if a1 = .ok then rs else a2 :: rs) ∧
      (∀ sent, a1 = .timeout sent → t.line = s.lineAtResponse) ∧
      (a1 = .ok → a = none → t.line = s.arrives 3) ∧
      ∀ bs left, a1 = .ok → a = some bs → s.lineAtResponse = bs ++ left → t.line = left ++ s.arrives 3 ++ s.arrives 4

/-- R134, R144, R156, R142 (D9): CLEAR as a whole: after any number of data answers, of any length and content, the first
timeout leaves the line empty (R45, D11; log 6) and ends it with OK; both frame registers are as they were and nothing was
sent. The quiet schedule is log 4. -/
def Obligations.ClearEndsAtTheFirstTimeout : Prop :=
  ∀ (s : State) (c : CmdRecord) (rest : List CmdRecord) (datas : List (List Byte)) (rs : List ReadAnswer),
    s.fsm = .idle → s.quiet → s.cmds = c :: rest → c.op = 6#3 →
    s.readAnswers = datas.map ReadAnswer.data ++ ReadAnswer.timeout :: rs →
    (∃ u : State, Host.Core.run Sys2Proof.core (datas.length + 2) s = .next u ∧ u.fsm = .done ∧ u.line = []) ∧
    ∃ (t : State) (r : Result),
      Host.Core.run Sys2Proof.core (datas.length + 3) s = .next t ∧
      t.fsm = .idle ∧ t.mode = .none ∧ t.request = none ∧ t.cmds = rest ∧ t.status = .ok ∧
      t.results = s.results ++ [r] ∧ r.status = .ok ∧ t.txf = s.txf ∧ t.rxf = s.rxf ∧ t.txlog = s.txlog ∧
      t.readAnswers = rs

/-- R155 (D18): CLEAR is not capped: while the transport answers data it stays in DRAIN, however long, and no result is
handed over. -/
def Obligations.ClearIsNotCapped : Prop :=
  ∀ (s : State) (c : CmdRecord) (rest : List CmdRecord) (datas : List (List Byte)) (rs : List ReadAnswer),
    s.fsm = .idle → s.quiet → s.cmds = c :: rest → c.op = 6#3 → s.readAnswers = datas.map ReadAnswer.data ++ rs →
    ∃ t : State, Host.Core.run Sys2Proof.core (datas.length + 1) s = .next t ∧ t.fsm = .drain ∧
      t.request = some (.tread 25) ∧ t.results = s.results ∧ t.cmds = rest ∧ t.readAnswers = rs

/-- C6 of spec/90_conflicts.md, R130, R141: the outcome of an exchange does not depend on what an earlier command left in
RXF, RXB, STATUS or on the result port, whatever the scripted answers, a contract-keeping transport's included (log 4). -/
def Obligations.ExchangeForgetsEarlierCommands : Prop :=
  ∀ (s s' : State) (c : CmdRecord) (rest : List CmdRecord) (a1 : WriteAnswer) (a2 : ReadAnswer)
    (ws : List WriteAnswer) (rs : List ReadAnswer) (a : Option (List Byte)),
    s.fsm = .idle → s.quiet → s.cmds = c :: rest → c.op = 4#3 ∨ c.op = 5#3 → s.txf.v = true →
    s.writeAnswers = a1 :: ws → s.readAnswers = a2 :: rs → a = toldBytes 5 s.lineAtResponse a2 →
    s' = { s with rxf := s'.rxf, rxb := s'.rxb, status := s'.status, results := s'.results } →
    ∃ (t t' : State) (r : Result),
      Host.Core.run Sys2Proof.core (bigStepCount a1 a) s = .next t ∧
      Host.Core.run Sys2Proof.core (bigStepCount a1 a) s' = .next t' ∧
      t.fsm = .idle ∧ t'.fsm = .idle ∧
      t.results = s.results ++ [r] ∧ t'.results = s'.results ++ [r] ∧ t.status = t'.status ∧ t.txf = t'.txf ∧
      t.txlog = t'.txlog ∧ t.line = t'.line
end

