-- ==== Sys2Proof/Laws/Codec.lean ====
section
/-! SUPPORT. The codec's bytes and fields (spec/30_encoding.md R71 to R73): each byte of a frame as a number, and the fields
that five bytes hold. -/

namespace Sys2Proof

theorem functionByte_toNat (m : Message) : (functionByte m).toNat = m.wb.toNat * 128 + m.fc.toNat := by
  have h : ∀ (w : BitVec 1) (f : BitVec 7),
      ((w.setWidth 8 <<< 7) ||| f.setWidth 8).toNat = w.toNat * 128 + f.toNat := by decide
  exact h m.wb m.fc

/-- The waiting bit is bit 7 of the function byte. -/
theorem wb_of_functionByte (m : Message) : ((functionByte m) >>> 7).setWidth 1 = m.wb := by
  have h : ∀ (w : BitVec 1) (f : BitVec 7), ((((w.setWidth 8 <<< 7) ||| f.setWidth 8) >>> 7).setWidth 1) = w := by decide
  exact h m.wb m.fc

/-- The function code is bits 6 to 0 of the function byte. -/
theorem fc_of_functionByte (m : Message) : ((functionByte m) &&& 0x7F#8).setWidth 7 = m.fc := by
  have h : ∀ (w : BitVec 1) (f : BitVec 7),
      ((((w.setWidth 8 <<< 7) ||| f.setWidth 8) &&& 0x7F#8).setWidth 7) = f := by decide
  exact h m.wb m.fc

theorem dataHigh_eq_slice (d : Half) : dataHigh d = d.extractLsb' 8 8 := by
  ext i hi
  have : i < 8 := hi
  interval_cases i <;> simp [dataHigh, BitVec.getElem_setWidth]

theorem dataLow_eq_slice (d : Half) : dataLow d = d.extractLsb' 0 8 := by
  ext i hi
  have : i < 8 := hi
  interval_cases i <;> simp [dataLow, BitVec.getElem_setWidth]

theorem dataHigh_toNat (d : Half) : (dataHigh d).toNat = d.toNat / 256 := by
  rw [dataHigh_eq_slice]
  have := d.isLt
  simp only [BitVec.extractLsb'_toNat, Nat.shiftRight_eq_div_pow]
  omega

theorem dataLow_toNat (d : Half) : (dataLow d).toNat = d.toNat % 256 := by
  rw [dataLow_eq_slice]
  simp [BitVec.extractLsb'_toNat]

/-- The data word of two bytes, high byte first (R73). -/
theorem data_toNat (b2 b3 : Byte) :
    ((b2.setWidth 16 <<< 8) ||| b3.setWidth 16 : Half).toNat = b2.toNat * 256 + b3.toNat := by
  have h2 := b2.isLt
  have h3 : b3.toNat < 2 ^ 8 := b3.isLt
  have hs : (b2.setWidth 16 <<< 8 : Half).toNat = b2.toNat <<< 8 := by
    simp only [BitVec.toNat_shiftLeft, BitVec.toNat_setWidth, Nat.shiftLeft_eq]
    omega
  have hl : (b3.setWidth 16 : Half).toNat = b3.toNat := by
    simp only [BitVec.toNat_setWidth]
    omega
  rw [BitVec.toNat_or, hs, hl, ← Nat.shiftLeft_add_eq_or_of_lt h3, Nat.shiftLeft_eq]

theorem data_of_bytes (d : Half) : ((dataHigh d).setWidth 16 <<< 8) ||| (dataLow d).setWidth 16 = d := by
  apply BitVec.eq_of_toNat_eq
  rw [data_toNat, dataHigh_toNat, dataLow_toNat]
  omega

theorem functionByte_messageOfBytes (b0 b1 b2 b3 b4 : Byte) : functionByte (messageOfBytes b0 b1 b2 b3 b4) = b1 := by
  have h : ∀ b : Byte,
      ((((b >>> 7).setWidth 1).setWidth 8 <<< 7) ||| ((b &&& 0x7F#8).setWidth 7).setWidth 8) = b := by decide
  exact h b1

theorem dataHigh_messageOfBytes (b0 b1 b2 b3 b4 : Byte) : dataHigh (messageOfBytes b0 b1 b2 b3 b4).data = b2 := by
  have h3 := b3.isLt
  apply BitVec.eq_of_toNat_eq
  rw [dataHigh_toNat, messageOfBytes, data_toNat]
  omega

theorem dataLow_messageOfBytes (b0 b1 b2 b3 b4 : Byte) : dataLow (messageOfBytes b0 b1 b2 b3 b4).data = b3 := by
  have h3 := b3.isLt
  apply BitVec.eq_of_toNat_eq
  rw [dataLow_toNat, messageOfBytes, data_toNat]
  omega

/-- The five bytes a Message was taken from. -/
theorem frameBytes_messageOfBytes (b0 b1 b2 b3 b4 : Byte) :
    frameBytes (messageOfBytes b0 b1 b2 b3 b4) = [b0, b1, b2, b3, b4] := by
  simp only [frameBytes, functionByte_messageOfBytes, dataHigh_messageOfBytes, dataLow_messageOfBytes]
  rfl

/-- The checksum of a Message is the XOR of the first four bytes it was taken from (R101). -/
theorem checksum_messageOfBytes (b0 b1 b2 b3 b4 : Byte) :
    checksum (messageOfBytes b0 b1 b2 b3 b4) = b0 ^^^ b1 ^^^ b2 ^^^ b3 := by
  simp only [checksum, functionByte_messageOfBytes, dataHigh_messageOfBytes, dataLow_messageOfBytes]
  rfl

/-- The Message in a Message's own bytes. -/
theorem messageOfBytes_self (m : Message) :
    messageOfBytes m.addr (functionByte m) (dataHigh m.data) (dataLow m.data) m.ck = m := by
  simp only [messageOfBytes, wb_of_functionByte, fc_of_functionByte, data_of_bytes]

/-- The Message is what its own bytes decode to. -/
theorem decodeMessage_frameBytes (m : Message) : decodeMessage (frameBytes m) = some m := by
  simp only [frameBytes, decodeMessage, messageOfBytes_self]

/-- Decoding succeeds exactly on 5 bytes (R105). -/
theorem decodeMessage_eq_some_iff (bs : List Byte) (m : Message) :
    decodeMessage bs = some m ↔
      ∃ b0 b1 b2 b3 b4, bs = [b0, b1, b2, b3, b4] ∧ m = messageOfBytes b0 b1 b2 b3 b4 := by
  unfold decodeMessage
  split
  · next b0 b1 b2 b3 b4 =>
    constructor
    · intro h
      exact ⟨b0, b1, b2, b3, b4, rfl, (Option.some.inj h).symm⟩
    · rintro ⟨c0, c1, c2, c3, c4, hb, rfl⟩
      simp_all
  · next h =>
    constructor
    · intro h'
      simp at h'
    · rintro ⟨c0, c1, c2, c3, c4, rfl, -⟩
      exact absurd rfl (h c0 c1 c2 c3 c4)

theorem decodeMessage_eq_none_iff (bs : List Byte) : decodeMessage bs = none ↔ bs.length ≠ 5 := by
  match bs with
  | [] => simp [decodeMessage]
  | [_] => simp [decodeMessage]
  | [_, _] => simp [decodeMessage]
  | [_, _, _] => simp [decodeMessage]
  | [_, _, _, _] => simp [decodeMessage]
  | [_, _, _, _, _] => simp [decodeMessage]
  | _ :: _ :: _ :: _ :: _ :: _ :: _ => simp [decodeMessage]

theorem frameBytes_length (m : Message) : (frameBytes m).length = 5 := rfl

theorem encodeMessage_length (m : Message) : (encodeMessage m).length = 5 := rfl

/-- Recomputing a fresh checksum changes nothing. -/
theorem freshChecksum_idem (m : Message) : freshChecksum (freshChecksum m) = freshChecksum m := rfl

theorem verifyChecksum_iff (m : Message) : Machine.verifyChecksum m = true ↔ m.ck = checksum m := by
  simp [Machine.verifyChecksum]

end Sys2Proof
end

