-- ==== Sys2Proof/Laws/State.lean ====
section
/-! SUPPORT. What each update of State does to each field, once, so that no later proof unfolds a record update. -/

namespace Sys2Proof.Machine

variable (s : State)

/-! ### putTxf -/

@[simp] theorem putTxf_fsm (m : Message) : (s.putTxf m).fsm = s.fsm := rfl
@[simp] theorem putTxf_mode (m : Message) : (s.putTxf m).mode = s.mode := rfl
@[simp] theorem putTxf_status (m : Message) : (s.putTxf m).status = s.status := rfl
@[simp] theorem putTxf_txf (m : Message) : (s.putTxf m).txf = { v := true, msg := m } := rfl
@[simp] theorem putTxf_rxf (m : Message) : (s.putTxf m).rxf = s.rxf := rfl
@[simp] theorem putTxf_rxb (m : Message) : (s.putTxf m).rxb = s.rxb := rfl
@[simp] theorem putTxf_request (m : Message) : (s.putTxf m).request = s.request := rfl
@[simp] theorem putTxf_cmds (m : Message) : (s.putTxf m).cmds = s.cmds := rfl
@[simp] theorem putTxf_results (m : Message) : (s.putTxf m).results = s.results := rfl
@[simp] theorem putTxf_ticks (m : Message) : (s.putTxf m).ticks = s.ticks := rfl
@[simp] theorem putTxf_writeAnswers (m : Message) : (s.putTxf m).writeAnswers = s.writeAnswers := rfl
@[simp] theorem putTxf_readAnswers (m : Message) : (s.putTxf m).readAnswers = s.readAnswers := rfl
@[simp] theorem putTxf_line (m : Message) : (s.putTxf m).line = s.line := rfl
@[simp] theorem putTxf_txlog (m : Message) : (s.putTxf m).txlog = s.txlog := rfl
@[simp] theorem putTxf_draws (m : Message) : (s.putTxf m).draws = s.draws := rfl

/-! ### putRxf -/

@[simp] theorem putRxf_fsm (m : Message) : (s.putRxf m).fsm = s.fsm := rfl
@[simp] theorem putRxf_mode (m : Message) : (s.putRxf m).mode = s.mode := rfl
@[simp] theorem putRxf_status (m : Message) : (s.putRxf m).status = s.status := rfl
@[simp] theorem putRxf_txf (m : Message) : (s.putRxf m).txf = s.txf := rfl
@[simp] theorem putRxf_rxf (m : Message) : (s.putRxf m).rxf = { v := true, msg := m } := rfl
@[simp] theorem putRxf_rxb (m : Message) : (s.putRxf m).rxb = s.rxb := rfl
@[simp] theorem putRxf_request (m : Message) : (s.putRxf m).request = s.request := rfl
@[simp] theorem putRxf_cmds (m : Message) : (s.putRxf m).cmds = s.cmds := rfl
@[simp] theorem putRxf_results (m : Message) : (s.putRxf m).results = s.results := rfl
@[simp] theorem putRxf_ticks (m : Message) : (s.putRxf m).ticks = s.ticks := rfl
@[simp] theorem putRxf_writeAnswers (m : Message) : (s.putRxf m).writeAnswers = s.writeAnswers := rfl
@[simp] theorem putRxf_readAnswers (m : Message) : (s.putRxf m).readAnswers = s.readAnswers := rfl
@[simp] theorem putRxf_line (m : Message) : (s.putRxf m).line = s.line := rfl
@[simp] theorem putRxf_txlog (m : Message) : (s.putRxf m).txlog = s.txlog := rfl
@[simp] theorem putRxf_draws (m : Message) : (s.putRxf m).draws = s.draws := rfl

/-! ### dropRxf -/

@[simp] theorem dropRxf_fsm : s.dropRxf.fsm = s.fsm := rfl
@[simp] theorem dropRxf_mode : s.dropRxf.mode = s.mode := rfl
@[simp] theorem dropRxf_status : s.dropRxf.status = s.status := rfl
@[simp] theorem dropRxf_txf : s.dropRxf.txf = s.txf := rfl
@[simp] theorem dropRxf_rxf : s.dropRxf.rxf = { s.rxf with v := false } := rfl
@[simp] theorem dropRxf_rxb : s.dropRxf.rxb = s.rxb := rfl
@[simp] theorem dropRxf_request : s.dropRxf.request = s.request := rfl
@[simp] theorem dropRxf_cmds : s.dropRxf.cmds = s.cmds := rfl
@[simp] theorem dropRxf_results : s.dropRxf.results = s.results := rfl
@[simp] theorem dropRxf_ticks : s.dropRxf.ticks = s.ticks := rfl
@[simp] theorem dropRxf_writeAnswers : s.dropRxf.writeAnswers = s.writeAnswers := rfl
@[simp] theorem dropRxf_readAnswers : s.dropRxf.readAnswers = s.readAnswers := rfl
@[simp] theorem dropRxf_line : s.dropRxf.line = s.line := rfl
@[simp] theorem dropRxf_txlog : s.dropRxf.txlog = s.txlog := rfl
@[simp] theorem dropRxf_draws : s.dropRxf.draws = s.draws := rfl

/-! ### putRxb -/

@[simp] theorem putRxb_fsm (bs : List Byte) : (s.putRxb bs).fsm = s.fsm := rfl
@[simp] theorem putRxb_mode (bs : List Byte) : (s.putRxb bs).mode = s.mode := rfl
@[simp] theorem putRxb_status (bs : List Byte) : (s.putRxb bs).status = s.status := rfl
@[simp] theorem putRxb_txf (bs : List Byte) : (s.putRxb bs).txf = s.txf := rfl
@[simp] theorem putRxb_rxf (bs : List Byte) : (s.putRxb bs).rxf = s.rxf := rfl
@[simp] theorem putRxb_rxb (bs : List Byte) : (s.putRxb bs).rxb = bs := rfl
@[simp] theorem putRxb_request (bs : List Byte) : (s.putRxb bs).request = s.request := rfl
@[simp] theorem putRxb_cmds (bs : List Byte) : (s.putRxb bs).cmds = s.cmds := rfl
@[simp] theorem putRxb_results (bs : List Byte) : (s.putRxb bs).results = s.results := rfl
@[simp] theorem putRxb_ticks (bs : List Byte) : (s.putRxb bs).ticks = s.ticks := rfl
@[simp] theorem putRxb_writeAnswers (bs : List Byte) : (s.putRxb bs).writeAnswers = s.writeAnswers := rfl
@[simp] theorem putRxb_readAnswers (bs : List Byte) : (s.putRxb bs).readAnswers = s.readAnswers := rfl
@[simp] theorem putRxb_line (bs : List Byte) : (s.putRxb bs).line = s.line := rfl
@[simp] theorem putRxb_txlog (bs : List Byte) : (s.putRxb bs).txlog = s.txlog := rfl
@[simp] theorem putRxb_draws (bs : List Byte) : (s.putRxb bs).draws = s.draws := rfl

/-! ### putStatus -/

@[simp] theorem putStatus_fsm (st : Status) : (s.putStatus st).fsm = s.fsm := rfl
@[simp] theorem putStatus_mode (st : Status) : (s.putStatus st).mode = s.mode := rfl
@[simp] theorem putStatus_status (st : Status) : (s.putStatus st).status = st := rfl
@[simp] theorem putStatus_txf (st : Status) : (s.putStatus st).txf = s.txf := rfl
@[simp] theorem putStatus_rxf (st : Status) : (s.putStatus st).rxf = s.rxf := rfl
@[simp] theorem putStatus_rxb (st : Status) : (s.putStatus st).rxb = s.rxb := rfl
@[simp] theorem putStatus_request (st : Status) : (s.putStatus st).request = s.request := rfl
@[simp] theorem putStatus_cmds (st : Status) : (s.putStatus st).cmds = s.cmds := rfl
@[simp] theorem putStatus_results (st : Status) : (s.putStatus st).results = s.results := rfl
@[simp] theorem putStatus_ticks (st : Status) : (s.putStatus st).ticks = s.ticks := rfl
@[simp] theorem putStatus_writeAnswers (st : Status) : (s.putStatus st).writeAnswers = s.writeAnswers := rfl
@[simp] theorem putStatus_readAnswers (st : Status) : (s.putStatus st).readAnswers = s.readAnswers := rfl
@[simp] theorem putStatus_line (st : Status) : (s.putStatus st).line = s.line := rfl
@[simp] theorem putStatus_txlog (st : Status) : (s.putStatus st).txlog = s.txlog := rfl
@[simp] theorem putStatus_draws (st : Status) : (s.putStatus st).draws = s.draws := rfl

/-! ### putMode -/

@[simp] theorem putMode_fsm (m : Mode) : (s.putMode m).fsm = s.fsm := rfl
@[simp] theorem putMode_mode (m : Mode) : (s.putMode m).mode = m := rfl
@[simp] theorem putMode_status (m : Mode) : (s.putMode m).status = s.status := rfl
@[simp] theorem putMode_txf (m : Mode) : (s.putMode m).txf = s.txf := rfl
@[simp] theorem putMode_rxf (m : Mode) : (s.putMode m).rxf = s.rxf := rfl
@[simp] theorem putMode_rxb (m : Mode) : (s.putMode m).rxb = s.rxb := rfl
@[simp] theorem putMode_request (m : Mode) : (s.putMode m).request = s.request := rfl
@[simp] theorem putMode_cmds (m : Mode) : (s.putMode m).cmds = s.cmds := rfl
@[simp] theorem putMode_results (m : Mode) : (s.putMode m).results = s.results := rfl
@[simp] theorem putMode_ticks (m : Mode) : (s.putMode m).ticks = s.ticks := rfl
@[simp] theorem putMode_writeAnswers (m : Mode) : (s.putMode m).writeAnswers = s.writeAnswers := rfl
@[simp] theorem putMode_readAnswers (m : Mode) : (s.putMode m).readAnswers = s.readAnswers := rfl
@[simp] theorem putMode_line (m : Mode) : (s.putMode m).line = s.line := rfl
@[simp] theorem putMode_txlog (m : Mode) : (s.putMode m).txlog = s.txlog := rfl
@[simp] theorem putMode_draws (m : Mode) : (s.putMode m).draws = s.draws := rfl

/-! ### goto -/

@[simp] theorem goto_fsm (f : FsmState) (r : Option Request) : (s.goto f r).fsm = f := rfl
@[simp] theorem goto_mode (f : FsmState) (r : Option Request) : (s.goto f r).mode = s.mode := rfl
@[simp] theorem goto_status (f : FsmState) (r : Option Request) : (s.goto f r).status = s.status := rfl
@[simp] theorem goto_txf (f : FsmState) (r : Option Request) : (s.goto f r).txf = s.txf := rfl
@[simp] theorem goto_rxf (f : FsmState) (r : Option Request) : (s.goto f r).rxf = s.rxf := rfl
@[simp] theorem goto_rxb (f : FsmState) (r : Option Request) : (s.goto f r).rxb = s.rxb := rfl
@[simp] theorem goto_request (f : FsmState) (r : Option Request) : (s.goto f r).request = r := rfl
@[simp] theorem goto_cmds (f : FsmState) (r : Option Request) : (s.goto f r).cmds = s.cmds := rfl
@[simp] theorem goto_results (f : FsmState) (r : Option Request) : (s.goto f r).results = s.results := rfl
@[simp] theorem goto_ticks (f : FsmState) (r : Option Request) : (s.goto f r).ticks = s.ticks := rfl
@[simp] theorem goto_writeAnswers (f : FsmState) (r : Option Request) : (s.goto f r).writeAnswers = s.writeAnswers := rfl
@[simp] theorem goto_readAnswers (f : FsmState) (r : Option Request) : (s.goto f r).readAnswers = s.readAnswers := rfl
@[simp] theorem goto_line (f : FsmState) (r : Option Request) : (s.goto f r).line = s.line := rfl
@[simp] theorem goto_txlog (f : FsmState) (r : Option Request) : (s.goto f r).txlog = s.txlog := rfl
@[simp] theorem goto_draws (f : FsmState) (r : Option Request) : (s.goto f r).draws = s.draws := rfl

/-! ### transmit -/

@[simp] theorem transmit_fsm (bs : List Byte) : (s.transmit bs).fsm = s.fsm := rfl
@[simp] theorem transmit_mode (bs : List Byte) : (s.transmit bs).mode = s.mode := rfl
@[simp] theorem transmit_status (bs : List Byte) : (s.transmit bs).status = s.status := rfl
@[simp] theorem transmit_txf (bs : List Byte) : (s.transmit bs).txf = s.txf := rfl
@[simp] theorem transmit_rxf (bs : List Byte) : (s.transmit bs).rxf = s.rxf := rfl
@[simp] theorem transmit_rxb (bs : List Byte) : (s.transmit bs).rxb = s.rxb := rfl
@[simp] theorem transmit_request (bs : List Byte) : (s.transmit bs).request = s.request := rfl
@[simp] theorem transmit_cmds (bs : List Byte) : (s.transmit bs).cmds = s.cmds := rfl
@[simp] theorem transmit_results (bs : List Byte) : (s.transmit bs).results = s.results := rfl
@[simp] theorem transmit_ticks (bs : List Byte) : (s.transmit bs).ticks = s.ticks := rfl
@[simp] theorem transmit_writeAnswers (bs : List Byte) : (s.transmit bs).writeAnswers = s.writeAnswers := rfl
@[simp] theorem transmit_readAnswers (bs : List Byte) : (s.transmit bs).readAnswers = s.readAnswers := rfl
@[simp] theorem transmit_line (bs : List Byte) : (s.transmit bs).line = s.line := rfl
@[simp] theorem transmit_txlog (bs : List Byte) : (s.transmit bs).txlog = s.txlog ++ bs := rfl
@[simp] theorem transmit_draws (bs : List Byte) : (s.transmit bs).draws = s.draws := rfl

/-! ### handOver -/

@[simp] theorem handOver_fsm (r : Result) : (s.handOver r).fsm = s.fsm := rfl
@[simp] theorem handOver_mode (r : Result) : (s.handOver r).mode = s.mode := rfl
@[simp] theorem handOver_status (r : Result) : (s.handOver r).status = s.status := rfl
@[simp] theorem handOver_txf (r : Result) : (s.handOver r).txf = s.txf := rfl
@[simp] theorem handOver_rxf (r : Result) : (s.handOver r).rxf = s.rxf := rfl
@[simp] theorem handOver_rxb (r : Result) : (s.handOver r).rxb = s.rxb := rfl
@[simp] theorem handOver_request (r : Result) : (s.handOver r).request = s.request := rfl
@[simp] theorem handOver_cmds (r : Result) : (s.handOver r).cmds = s.cmds := rfl
@[simp] theorem handOver_results (r : Result) : (s.handOver r).results = s.results ++ [r] := rfl
@[simp] theorem handOver_ticks (r : Result) : (s.handOver r).ticks = s.ticks := rfl
@[simp] theorem handOver_writeAnswers (r : Result) : (s.handOver r).writeAnswers = s.writeAnswers := rfl
@[simp] theorem handOver_readAnswers (r : Result) : (s.handOver r).readAnswers = s.readAnswers := rfl
@[simp] theorem handOver_line (r : Result) : (s.handOver r).line = s.line := rfl
@[simp] theorem handOver_txlog (r : Result) : (s.handOver r).txlog = s.txlog := rfl
@[simp] theorem handOver_draws (r : Result) : (s.handOver r).draws = s.draws := rfl

/-! ### endCodec -/

@[simp] theorem endCodec_fsm (r : Result) : (endCodec r s).fsm = s.fsm := rfl
@[simp] theorem endCodec_mode (r : Result) : (endCodec r s).mode = s.mode := rfl
@[simp] theorem endCodec_status (r : Result) : (endCodec r s).status = r.status := rfl
@[simp] theorem endCodec_txf (r : Result) : (endCodec r s).txf = s.txf := rfl
@[simp] theorem endCodec_rxf (r : Result) : (endCodec r s).rxf = s.rxf := rfl
@[simp] theorem endCodec_rxb (r : Result) : (endCodec r s).rxb = s.rxb := rfl
@[simp] theorem endCodec_request (r : Result) : (endCodec r s).request = s.request := rfl
@[simp] theorem endCodec_cmds (r : Result) : (endCodec r s).cmds = s.cmds := rfl
@[simp] theorem endCodec_results (r : Result) : (endCodec r s).results = s.results ++ [r] := rfl
@[simp] theorem endCodec_ticks (r : Result) : (endCodec r s).ticks = s.ticks := rfl
@[simp] theorem endCodec_writeAnswers (r : Result) : (endCodec r s).writeAnswers = s.writeAnswers := rfl
@[simp] theorem endCodec_readAnswers (r : Result) : (endCodec r s).readAnswers = s.readAnswers := rfl
@[simp] theorem endCodec_line (r : Result) : (endCodec r s).line = s.line := rfl
@[simp] theorem endCodec_txlog (r : Result) : (endCodec r s).txlog = s.txlog := rfl
@[simp] theorem endCodec_draws (r : Result) : (endCodec r s).draws = s.draws := rfl

/-! ### raiseCodec -/

@[simp] theorem raiseCodec_fsm (K : Status) : (raiseCodec K s).fsm = s.fsm := rfl
@[simp] theorem raiseCodec_mode (K : Status) : (raiseCodec K s).mode = s.mode := rfl
@[simp] theorem raiseCodec_status (K : Status) : (raiseCodec K s).status = K := rfl
@[simp] theorem raiseCodec_txf (K : Status) : (raiseCodec K s).txf = s.txf := rfl
@[simp] theorem raiseCodec_rxf (K : Status) : (raiseCodec K s).rxf = s.rxf := rfl
@[simp] theorem raiseCodec_rxb (K : Status) : (raiseCodec K s).rxb = s.rxb := rfl
@[simp] theorem raiseCodec_request (K : Status) : (raiseCodec K s).request = s.request := rfl
@[simp] theorem raiseCodec_cmds (K : Status) : (raiseCodec K s).cmds = s.cmds := rfl
@[simp] theorem raiseCodec_results (K : Status) : (raiseCodec K s).results = s.results ++ [bareResult K s] := rfl
@[simp] theorem raiseCodec_ticks (K : Status) : (raiseCodec K s).ticks = s.ticks := rfl
@[simp] theorem raiseCodec_writeAnswers (K : Status) : (raiseCodec K s).writeAnswers = s.writeAnswers := rfl
@[simp] theorem raiseCodec_readAnswers (K : Status) : (raiseCodec K s).readAnswers = s.readAnswers := rfl
@[simp] theorem raiseCodec_line (K : Status) : (raiseCodec K s).line = s.line := rfl
@[simp] theorem raiseCodec_txlog (K : Status) : (raiseCodec K s).txlog = s.txlog := rfl
@[simp] theorem raiseCodec_draws (K : Status) : (raiseCodec K s).draws = s.draws := rfl

/-! ### raiseExchange -/

@[simp] theorem raiseExchange_fsm (K : Status) : (raiseExchange K s).fsm = .failed := rfl
@[simp] theorem raiseExchange_mode (K : Status) : (raiseExchange K s).mode = s.mode := rfl
@[simp] theorem raiseExchange_status (K : Status) : (raiseExchange K s).status = K := rfl
@[simp] theorem raiseExchange_txf (K : Status) : (raiseExchange K s).txf = s.txf := rfl
@[simp] theorem raiseExchange_rxf (K : Status) : (raiseExchange K s).rxf = s.rxf := rfl
@[simp] theorem raiseExchange_rxb (K : Status) : (raiseExchange K s).rxb = s.rxb := rfl
@[simp] theorem raiseExchange_request (K : Status) : (raiseExchange K s).request = none := rfl
@[simp] theorem raiseExchange_cmds (K : Status) : (raiseExchange K s).cmds = s.cmds := rfl
@[simp] theorem raiseExchange_results (K : Status) : (raiseExchange K s).results = s.results := rfl
@[simp] theorem raiseExchange_ticks (K : Status) : (raiseExchange K s).ticks = s.ticks := rfl
@[simp] theorem raiseExchange_writeAnswers (K : Status) : (raiseExchange K s).writeAnswers = s.writeAnswers := rfl
@[simp] theorem raiseExchange_readAnswers (K : Status) : (raiseExchange K s).readAnswers = s.readAnswers := rfl
@[simp] theorem raiseExchange_line (K : Status) : (raiseExchange K s).line = s.line := rfl
@[simp] theorem raiseExchange_txlog (K : Status) : (raiseExchange K s).txlog = s.txlog := rfl
@[simp] theorem raiseExchange_draws (K : Status) : (raiseExchange K s).draws = s.draws := rfl

/-! ### takeResult -/

@[simp] theorem takeResult_fsm : (takeResult s).fsm = .idle := rfl
@[simp] theorem takeResult_mode : (takeResult s).mode = .none := rfl
@[simp] theorem takeResult_status : (takeResult s).status = s.status := rfl
@[simp] theorem takeResult_txf : (takeResult s).txf = s.txf := rfl
@[simp] theorem takeResult_rxf : (takeResult s).rxf = s.rxf := rfl
@[simp] theorem takeResult_rxb : (takeResult s).rxb = s.rxb := rfl
@[simp] theorem takeResult_request : (takeResult s).request = none := rfl
@[simp] theorem takeResult_cmds : (takeResult s).cmds = s.cmds := rfl
@[simp] theorem takeResult_results : (takeResult s).results = s.results ++ [exchangeResult s] := rfl
@[simp] theorem takeResult_ticks : (takeResult s).ticks = s.ticks := rfl
@[simp] theorem takeResult_writeAnswers : (takeResult s).writeAnswers = s.writeAnswers := rfl
@[simp] theorem takeResult_readAnswers : (takeResult s).readAnswers = s.readAnswers := rfl
@[simp] theorem takeResult_line : (takeResult s).line = s.line := rfl
@[simp] theorem takeResult_txlog : (takeResult s).txlog = s.txlog := rfl
@[simp] theorem takeResult_draws : (takeResult s).draws = s.draws := rfl

/-! ### writeDone -/

@[simp] theorem writeDone_fsm : (writeDone s).fsm = s.fsm := rfl
@[simp] theorem writeDone_mode : (writeDone s).mode = s.mode := rfl
@[simp] theorem writeDone_status : (writeDone s).status = s.status := rfl
@[simp] theorem writeDone_txf : (writeDone s).txf = s.txf := rfl
@[simp] theorem writeDone_rxf : (writeDone s).rxf = s.rxf := rfl
@[simp] theorem writeDone_rxb : (writeDone s).rxb = s.rxb := rfl
@[simp] theorem writeDone_request : (writeDone s).request = s.request := rfl
@[simp] theorem writeDone_cmds : (writeDone s).cmds = s.cmds := rfl
@[simp] theorem writeDone_results : (writeDone s).results = s.results := rfl
@[simp] theorem writeDone_ticks : (writeDone s).ticks = s.ticks := rfl
@[simp] theorem writeDone_writeAnswers : (writeDone s).writeAnswers = s.writeAnswers.tail := rfl
@[simp] theorem writeDone_readAnswers : (writeDone s).readAnswers = s.readAnswers := rfl
@[simp] theorem writeDone_line : (writeDone s).line = s.line := rfl
@[simp] theorem writeDone_txlog : (writeDone s).txlog = s.txlog := rfl
@[simp] theorem writeDone_draws : (writeDone s).draws = s.draws := rfl

/-! ### readDone -/

@[simp] theorem readDone_fsm (n : Nat) : (readDone n s).fsm = s.fsm := rfl
@[simp] theorem readDone_mode (n : Nat) : (readDone n s).mode = s.mode := rfl
@[simp] theorem readDone_status (n : Nat) : (readDone n s).status = s.status := rfl
@[simp] theorem readDone_txf (n : Nat) : (readDone n s).txf = s.txf := rfl
@[simp] theorem readDone_rxf (n : Nat) : (readDone n s).rxf = s.rxf := rfl
@[simp] theorem readDone_rxb (n : Nat) : (readDone n s).rxb = s.rxb := rfl
@[simp] theorem readDone_request (n : Nat) : (readDone n s).request = s.request := rfl
@[simp] theorem readDone_cmds (n : Nat) : (readDone n s).cmds = s.cmds := rfl
@[simp] theorem readDone_results (n : Nat) : (readDone n s).results = s.results := rfl
@[simp] theorem readDone_ticks (n : Nat) : (readDone n s).ticks = s.ticks := rfl
@[simp] theorem readDone_writeAnswers (n : Nat) : (readDone n s).writeAnswers = s.writeAnswers := rfl
@[simp] theorem readDone_readAnswers (n : Nat) : (readDone n s).readAnswers = s.readAnswers.tail := rfl
@[simp] theorem readDone_line (n : Nat) : (readDone n s).line = lineAfterAnswer n s := rfl
@[simp] theorem readDone_txlog (n : Nat) : (readDone n s).txlog = s.txlog := rfl
@[simp] theorem readDone_draws (n : Nat) : (readDone n s).draws = s.draws := rfl

/-! ### afterTick -/

@[simp] theorem afterTick_fsm : (afterTick s).fsm = s.fsm := rfl
@[simp] theorem afterTick_mode : (afterTick s).mode = s.mode := rfl
@[simp] theorem afterTick_status : (afterTick s).status = s.status := rfl
@[simp] theorem afterTick_txf : (afterTick s).txf = s.txf := rfl
@[simp] theorem afterTick_rxf : (afterTick s).rxf = s.rxf := rfl
@[simp] theorem afterTick_rxb : (afterTick s).rxb = s.rxb := rfl
@[simp] theorem afterTick_request : (afterTick s).request = s.request := rfl
@[simp] theorem afterTick_cmds : (afterTick s).cmds = s.cmds := rfl
@[simp] theorem afterTick_results : (afterTick s).results = s.results := rfl
@[simp] theorem afterTick_ticks : (afterTick s).ticks = s.ticks.tail := rfl
@[simp] theorem afterTick_writeAnswers : (afterTick s).writeAnswers = s.writeAnswers := rfl
@[simp] theorem afterTick_readAnswers : (afterTick s).readAnswers = s.readAnswers := rfl
@[simp] theorem afterTick_line : (afterTick s).line = s.line ++ (nextTick s).arrive := rfl
@[simp] theorem afterTick_txlog : (afterTick s).txlog = s.txlog := rfl
@[simp] theorem afterTick_draws : (afterTick s).draws = s.draws + 1 := rfl

/-! ### startExchange -/

@[simp] theorem startExchange_fsm (mode : Mode) (wb : BitVec 1) (m : Message) : (startExchange mode wb m s).fsm = .send := rfl
@[simp] theorem startExchange_mode (mode : Mode) (wb : BitVec 1) (m : Message) : (startExchange mode wb m s).mode = mode := rfl
@[simp] theorem startExchange_status (mode : Mode) (wb : BitVec 1) (m : Message) : (startExchange mode wb m s).status = s.status := rfl
@[simp] theorem startExchange_txf (mode : Mode) (wb : BitVec 1) (m : Message) : (startExchange mode wb m s).txf = { v := true, msg := requestMessage wb m } := rfl
@[simp] theorem startExchange_rxf (mode : Mode) (wb : BitVec 1) (m : Message) : (startExchange mode wb m s).rxf = { s.rxf with v := false } := rfl
@[simp] theorem startExchange_rxb (mode : Mode) (wb : BitVec 1) (m : Message) : (startExchange mode wb m s).rxb = s.rxb := rfl
@[simp] theorem startExchange_request (mode : Mode) (wb : BitVec 1) (m : Message) : (startExchange mode wb m s).request = some (.twrite (encodeMessage (requestMessage wb m))) := rfl
@[simp] theorem startExchange_cmds (mode : Mode) (wb : BitVec 1) (m : Message) : (startExchange mode wb m s).cmds = s.cmds := rfl
@[simp] theorem startExchange_results (mode : Mode) (wb : BitVec 1) (m : Message) : (startExchange mode wb m s).results = s.results := rfl
@[simp] theorem startExchange_ticks (mode : Mode) (wb : BitVec 1) (m : Message) : (startExchange mode wb m s).ticks = s.ticks := rfl
@[simp] theorem startExchange_writeAnswers (mode : Mode) (wb : BitVec 1) (m : Message) : (startExchange mode wb m s).writeAnswers = s.writeAnswers := rfl
@[simp] theorem startExchange_readAnswers (mode : Mode) (wb : BitVec 1) (m : Message) : (startExchange mode wb m s).readAnswers = s.readAnswers := rfl
@[simp] theorem startExchange_line (mode : Mode) (wb : BitVec 1) (m : Message) : (startExchange mode wb m s).line = s.line := rfl
@[simp] theorem startExchange_txlog (mode : Mode) (wb : BitVec 1) (m : Message) : (startExchange mode wb m s).txlog = s.txlog := rfl
@[simp] theorem startExchange_draws (mode : Mode) (wb : BitVec 1) (m : Message) : (startExchange mode wb m s).draws = s.draws := rfl

/-! ### resetBlock -/

@[simp] theorem resetBlock_fsm : (resetBlock s).fsm = .idle := rfl
@[simp] theorem resetBlock_mode : (resetBlock s).mode = .none := rfl
@[simp] theorem resetBlock_status : (resetBlock s).status = .ok := rfl
@[simp] theorem resetBlock_txf : (resetBlock s).txf = { v := false, msg := Config.resetTxf s.draws } := rfl
@[simp] theorem resetBlock_rxf : (resetBlock s).rxf = { v := false, msg := Config.resetRxf s.draws } := rfl
@[simp] theorem resetBlock_rxb : (resetBlock s).rxb = (Config.resetRxb s.draws).take Config.rxLenMax := rfl
@[simp] theorem resetBlock_request : (resetBlock s).request = none := rfl
@[simp] theorem resetBlock_cmds : (resetBlock s).cmds = s.cmds := rfl
@[simp] theorem resetBlock_results : (resetBlock s).results = s.results := rfl
@[simp] theorem resetBlock_ticks : (resetBlock s).ticks = s.ticks := rfl
@[simp] theorem resetBlock_writeAnswers : (resetBlock s).writeAnswers = s.writeAnswers := rfl
@[simp] theorem resetBlock_readAnswers : (resetBlock s).readAnswers = s.readAnswers := rfl
@[simp] theorem resetBlock_line : (resetBlock s).line = s.line := rfl
@[simp] theorem resetBlock_txlog : (resetBlock s).txlog = s.txlog ++ abandonedBytes s := rfl
@[simp] theorem resetBlock_draws : (resetBlock s).draws = s.draws := rfl

/-! ### The registers by name -/

@[simp] theorem frameReg_txf : s.frameReg .txf = s.txf := rfl
@[simp] theorem frameReg_rxf : s.frameReg .rxf = s.rxf := rfl

/-! ### Result records -/

@[simp] theorem bareResult_status (st : Status) : (bareResult st s).status = st := rfl

@[simp] theorem exchangeResult_status : (exchangeResult s).status = s.status := by
  unfold exchangeResult
  split <;> simp_all

theorem exchangeResult_msg (hm : s.mode = .query) (hs : s.status = .ok) : (exchangeResult s).msg = s.rxf.msg := by
  simp [exchangeResult, hm, hs]

end Sys2Proof.Machine
end

