-- ==== Sys2Proof/Laws/Ops.lean ====
section
/-! SUPPORT. One lemma per shared operation: everything it can do, for later proofs to cite. -/

namespace Sys2Proof.Machine

variable {s t : State} {run : Host.Outcome State Fault Refusal}

/-! ### Acceptance -/

theorem accept_eq_next_iff : accept s run = .next t ↔ s.fsm = .idle ∧ run = .next t := by
  unfold accept
  split <;> simp_all

theorem accept_ne_fault (h : ∀ r, run ≠ .fault r) (r : Fault) : accept s run ≠ .fault r := by
  unfold accept
  split
  · exact h r
  · simp

theorem reading_eq_next_iff {F : FrameName} {k : Message → Host.Outcome State Fault Refusal} :
    reading F s k = .next t ↔ (s.frameReg F).v = true ∧ k (s.frameReg F).msg = .next t := by
  unfold reading
  split <;> simp_all

theorem reading_ne_fault {F : FrameName} {k : Message → Host.Outcome State Fault Refusal}
    (h : ∀ m r, k m ≠ .fault r) (r : Fault) : reading F s k ≠ .fault r := by
  unfold reading
  split
  · exact h _ r
  · simp

theorem frameDue_eq_next_iff {f : FsmState} : frameDue f s run = .next t ↔ s.fsm = f ∧ run = .next t := by
  unfold frameDue
  split <;> simp_all

theorem frameDue_ne_fault {f : FsmState} (h : ∀ r, run ≠ .fault r) (r : Fault) : frameDue f s run ≠ .fault r := by
  unfold frameDue
  split
  · exact h r
  · simp

/-! ### The transport -/

theorem rxLenMax_ge : 25 ≤ Config.rxLenMax := Nat.le_add_left 25 Config.rxLenExtra

/-- What the transport hands back fits RXB (R20, R25). -/
theorem answeredBytes_length_le {n : Nat} {bs : List Byte} (hn : n ≤ 25) (h : answeredBytes n s = some bs) :
    bs.length ≤ Config.rxLenMax := by
  have h25 := rxLenMax_ge
  unfold answeredBytes at h
  split at h
  · simp at h
  · simp only [Option.some.injEq] at h
    subst h
    simp only [List.length_take]
    omega
  · split at h
    · simp only [Option.some.injEq] at h
      subst h
      simp only [List.length_take]
      omega
    · simp at h

/-- A timed-out read leaves the line empty (R45). -/
theorem lineAfterAnswer_timeout {n : Nat} (h : answeredBytes n s = none) : lineAfterAnswer n s = [] := by
  simp [lineAfterAnswer, h]

/-- Bytes handed over from the front of the line are removed from it (R42). -/
theorem lineAfterAnswer_prefix {n : Nat} {bs : List Byte} (h : answeredBytes n s = some bs)
    (hp : bs.isPrefixOf s.line = true) : lineAfterAnswer n s = s.line.drop bs.length := by
  simp [lineAfterAnswer, h, hp]

/-- T2 or T3, and nothing else (R136, R137). -/
theorem frameSent_cases (bs : List Byte) (s : State) :
    (nextWriteAnswer s = .ok ∧
      frameSent bs s = ((writeDone s).transmit bs).goto .awaitResponse (some (.tread frameLen))) ∨
    (∃ sent, nextWriteAnswer s = .timeout sent ∧
      frameSent bs s = raiseExchange .timeout ((writeDone s).transmit (bs.take sent))) := by
  unfold frameSent
  cases h : nextWriteAnswer s with
  | ok => exact .inl ⟨rfl, rfl⟩
  | timeout sent => exact .inr ⟨sent, rfl, rfl⟩

/-- T4 or T5, and nothing else (R138, R139). -/
theorem responseRead_cases (n : Nat) (s : State) :
    (answeredBytes n s = none ∧ responseRead n s = raiseExchange .timeout (readDone n s)) ∨
    (∃ bs, answeredBytes n s = some bs ∧ responseRead n s = ((readDone n s).putRxb bs).goto .validate none) := by
  unfold responseRead
  cases h : answeredBytes n s with
  | none => exact .inl ⟨rfl, rfl⟩
  | some bs => exact .inr ⟨bs, rfl, rfl⟩

/-- T9 or T10, and nothing else (R143, R144). -/
theorem drainRead_cases (n : Nat) (s : State) :
    (answeredBytes n s = none ∧ drainRead n s = ((readDone n s).putStatus .ok).goto .done none) ∨
    (∃ bs, answeredBytes n s = some bs ∧
      drainRead n s = (readDone n s).goto .drain (some (.tread drainReadLen))) := by
  unfold drainRead
  cases h : answeredBytes n s with
  | none => exact .inl ⟨rfl, rfl⟩
  | some bs => exact .inr ⟨bs, rfl, rfl⟩

/-! ### T6 -/

/-- Success or a raised failure, RXF written in both (R140). -/
theorem responseChecked_cases (m : Message) (s : State) :
    (responseStatus s.mode m = .ok ∧ responseChecked m s = ((s.putRxf m).putStatus .ok).goto .done none) ∨
    (responseStatus s.mode m ≠ .ok ∧
      responseChecked m s = raiseExchange (responseStatus s.mode m) (s.putRxf m)) := by
  unfold responseChecked
  split
  · next h => exact .inl ⟨h, rfl⟩
  · next h => exact .inr ⟨h, rfl⟩

/-- The four outcomes of T6's tests, each with the condition under which it is the first (R179). -/
theorem responseStatus_cases (mode : Mode) (m : Message) :
    (responseStatus mode m = .badChecksum ∧ verifyChecksum m = false) ∨
    (responseStatus mode m = .nak ∧ verifyChecksum m = true ∧ m.fc = nakCode) ∨
    (responseStatus mode m = .notAcked ∧ verifyChecksum m = true ∧ m.fc ≠ nakCode ∧ mode = .write ∧ m.fc ≠ ackCode) ∨
    (responseStatus mode m = .ok ∧ verifyChecksum m = true ∧ m.fc ≠ nakCode ∧ (mode = .write → m.fc = ackCode)) := by
  unfold responseStatus
  cases hv : verifyChecksum m with
  | false => simp
  | true =>
    by_cases hn : m.fc = nakCode
    · simp [hn]
    · by_cases hw : mode = .write ∧ m.fc ≠ ackCode
      · simp [hn, hw]
      · simp only [hn, hw, if_false]
        simp_all

/-! ### CONSTRUCT -/

/-- CONSTRUCT fills TXF or raises InvalidField (R102). -/
theorem runConstruct_cases (a f d w : Nat) (s : State) :
    (construct a f d w = none ∧ runConstruct a f d w s = raiseCodec .invalidField s) ∨
    (∃ m, construct a f d w = some m ∧ m.ck = checksum m ∧
      runConstruct a f d w s = endCodec { bareResult .ok s with msg := m } (s.putTxf m)) := by
  unfold runConstruct
  cases h : construct a f d w with
  | none => exact .inl ⟨rfl, rfl⟩
  | some m =>
    refine .inr ⟨m, rfl, ?_, rfl⟩
    unfold construct at h
    split at h
    · simp at h
    · split at h
      · simp at h
      · rw [← Option.some.inj h]
        rfl

end Sys2Proof.Machine
end

