-- ==== Sys2Proof/Laws/Exec.lean ====
section
/-! SUPPORT. When each instruction answers a next state, and which one. -/

namespace Sys2Proof.Machine

variable {s t : State}

theorem exec_construct_next_iff {addr fc : Byte} {data : Half} {wb : Byte} :
    exec (.construct addr fc data wb) s = .next t ↔
      s.fsm = .idle ∧ t = runConstruct addr.toNat fc.toNat data.toNat wb.toNat s := by
  simp [exec, execConstruct, accept_eq_next_iff, eq_comm (a := t)]

theorem exec_simple_next_iff {fc : Byte} {data : Half} :
    exec (.simple fc data) s = .next t ↔
      s.fsm = .idle ∧ t = runConstruct Config.defaultAddress.toNat fc.toNat data.toNat 0 s := by
  simp [exec, execSimple, accept_eq_next_iff, eq_comm (a := t)]

theorem exec_encode_next_iff :
    exec .encode s = .next t ↔ s.fsm = .idle ∧ s.txf.v = true ∧
      t = endCodec { bareResult .ok s with bytes := encodeMessage s.txf.msg } (s.putTxf (freshChecksum s.txf.msg)) := by
  simp [exec, execEncode, accept_eq_next_iff, reading_eq_next_iff, eq_comm (a := t)]

theorem exec_decode_next_iff {bytes : List Byte} :
    exec (.decode bytes) s = .next t ↔ s.fsm = .idle ∧
      ((decodeMessage bytes = none ∧ t = raiseCodec .invalidFrameLength s) ∨
        ∃ m, decodeMessage bytes = some m ∧ t = endCodec { bareResult .ok s with msg := m } (s.putRxf m)) := by
  cases h : decodeMessage bytes <;> simp [exec, execDecode, accept_eq_next_iff, h, eq_comm (a := t)]

theorem exec_verify_next_iff {sel : BitVec 1} :
    exec (.verify sel) s = .next t ↔ s.fsm = .idle ∧ (s.frameReg (selected sel)).v = true ∧
      t = endCodec { bareResult .ok s with flag := verifyChecksum (s.frameReg (selected sel)).msg } s := by
  simp [exec, execVerify, accept_eq_next_iff, reading_eq_next_iff, eq_comm (a := t)]

theorem exec_query_next_iff :
    exec .query s = .next t ↔ s.fsm = .idle ∧ s.txf.v = true ∧ t = startExchange .query 1#1 s.txf.msg s := by
  simp [exec, execQuery, accept_eq_next_iff, reading_eq_next_iff, eq_comm (a := t)]

theorem exec_write_next_iff :
    exec .write s = .next t ↔ s.fsm = .idle ∧ s.txf.v = true ∧ t = startExchange .write 0#1 s.txf.msg s := by
  simp [exec, execWrite, accept_eq_next_iff, reading_eq_next_iff, eq_comm (a := t)]

theorem exec_clear_next_iff :
    exec .clear s = .next t ↔ s.fsm = .idle ∧ t = (s.putMode .clear).goto .drain (some (.tread drainReadLen)) := by
  simp [exec, execClear, accept_eq_next_iff, eq_comm (a := t)]

/-- A request frame, of either class, is its transmission in SEND (R76). -/
theorem exec_requestClass_next_iff {m : Message} :
    exec (requestClass m) s = .next t ↔ s.fsm = .send ∧ t = frameSent (frameBytes m) s := by
  have h1 : ∀ w : BitVec 1, w = 1#1 ∨ w = 0#1 := by decide
  unfold requestClass
  obtain ⟨addr, wb, fc, data, ck⟩ := m
  rcases h1 wb with rfl | rfl <;> simp [exec, execQry, execWrt, frameDue_eq_next_iff, eq_comm (a := t)]

/-- A response frame, of every class, is T6 in VALIDATE (R76, R140). -/
theorem exec_responseClass_next_iff {m : Message} :
    exec (responseClass m) s = .next t ↔ s.fsm = .validate ∧ t = responseChecked m s := by
  unfold responseClass
  obtain ⟨addr, wb, fc, data, ck⟩ := m
  dsimp only
  split
  · next h => subst h; simp [exec, execAck, frameDue_eq_next_iff, eq_comm (a := t)]
  · split
    · next h => subst h; simp [exec, execNak, frameDue_eq_next_iff, eq_comm (a := t)]
    · simp [exec, execDat, frameDue_eq_next_iff, eq_comm (a := t)]

/-- No instruction ends in a fault. -/
theorem exec_ne_fault (i : Instr) (s : State) (r : Fault) : exec i s ≠ .fault r := by
  cases i with
  | construct => exact accept_ne_fault (by simp) r
  | encode => exact accept_ne_fault (fun r => reading_ne_fault (by simp) r) r
  | decode => exact accept_ne_fault (by simp) r
  | verify => exact accept_ne_fault (fun r => reading_ne_fault (by simp) r) r
  | query => exact accept_ne_fault (fun r => reading_ne_fault (by simp) r) r
  | write => exact accept_ne_fault (fun r => reading_ne_fault (by simp) r) r
  | clear => exact accept_ne_fault (by simp) r
  | reserved7 => simp [exec, execReserved7]
  | simple => exact accept_ne_fault (by simp) r
  | qry => exact frameDue_ne_fault (by simp) r
  | wrt => exact frameDue_ne_fault (by simp) r
  | ack => exact frameDue_ne_fault (by simp) r
  | nak => exact frameDue_ne_fault (by simp) r
  | dat => exact frameDue_ne_fault (by simp) r

end Sys2Proof.Machine
end

