-- ==== Sys2Proof/Laws/PerInstr.lean ====
section
/-! SUPPORT. Statements made per instruction (LAWS.json). RawForm: the raw form of a well-formed instruction fits the port
it stands on: a command record's `cmd.len` counts its bytes (spec/10_state.md R23), a frame has FRAME_LEN bytes
(spec/30_encoding.md R70). -/

namespace Sys2Proof.Laws.RawForm

def Statement (i : Instr) : Prop :=
  i.wellFormed = true →
    match encodeInstr i with
    | .command c => c.bytes.length = c.len.toNat
    | .request bs => bs.length = Machine.frameLen
    | .response bs => bs.length = Machine.frameLen

theorem construct (addr fc : Byte) (data : Half) (wb : Byte) : Statement (.construct addr fc data wb) := fun _ => rfl

theorem encode : Statement .encode := fun _ => rfl

theorem decode (bytes : List Byte) : Statement (.decode bytes) := by
  intro h
  have hl : bytes.length ≤ 31 := of_decide_eq_true h
  simp only [encodeInstr, blankRecord, BitVec.toNat_ofNat]
  omega

theorem verify (sel : BitVec 1) : Statement (.verify sel) := fun _ => rfl

theorem query : Statement .query := fun _ => rfl

theorem write : Statement .write := fun _ => rfl

theorem clear : Statement .clear := fun _ => rfl

theorem reserved7 : Statement .reserved7 := fun _ => rfl

theorem simple (fc : Byte) (data : Half) : Statement (.simple fc data) := fun _ => rfl

theorem qry (addr : Byte) (fc : BitVec 7) (data : Half) (ck : Byte) : Statement (.qry addr fc data ck) := fun _ => rfl

theorem wrt (addr : Byte) (fc : BitVec 7) (data : Half) (ck : Byte) : Statement (.wrt addr fc data ck) := fun _ => rfl

theorem ack (addr : Byte) (wb : BitVec 1) (data : Half) (ck : Byte) : Statement (.ack addr wb data ck) := fun _ => rfl

theorem nak (addr : Byte) (wb : BitVec 1) (data : Half) (ck : Byte) : Statement (.nak addr wb data ck) := fun _ => rfl

theorem dat (addr : Byte) (wb : BitVec 1) (fc : BitVec 7) (data : Half) (ck : Byte) :
    Statement (.dat addr wb fc data ck) := fun _ => rfl

end Sys2Proof.Laws.RawForm
end

