-- ==== Sys2Proof/Laws/Step.lean ====
section
/-! SUPPORT. Everything a step can do, once: the invariant and the frame claims cite these instead of unfolding the step. -/

namespace Sys2Proof.Machine

variable {s t : State}

theorem step_of_reset (h : (nextTick s).reset = true) : step s = .next (resetBlock (afterTick s)) := by
  simp [step, stepAfterTick, h]

theorem step_of_busy (h : (nextTick s).reset = false) (hb : (nextTick s).hostBusy = true)
    (hw : waitsForHost (afterTick s) = true) : step s = .next (afterTick s) := by
  simp [step, stepAfterTick, h, hb, hw]

theorem step_of_quiet (h : s.quietNow) : step s = blockStep (afterTick s) := by
  simp [step, stepAfterTick, h.1, h.2]

theorem step_of_not_waiting (h : (nextTick s).reset = false) (hw : waitsForHost (afterTick s) = false) :
    step s = blockStep (afterTick s) := by
  simp [step, stepAfterTick, h, hw]

/-- A step is a reset, a wait for a busy host, or the block's own step. -/
theorem step_cases (s : State) :
    ((nextTick s).reset = true ∧ step s = .next (resetBlock (afterTick s))) ∨
    ((nextTick s).reset = false ∧ waitsForHost (afterTick s) = true ∧ step s = .next (afterTick s)) ∨
    ((nextTick s).reset = false ∧ step s = blockStep (afterTick s)) := by
  cases hr : (nextTick s).reset with
  | true => exact .inl ⟨rfl, step_of_reset hr⟩
  | false =>
    refine .inr ?_
    cases hw : waitsForHost (afterTick s) with
    | false => exact .inr ⟨rfl, step_of_not_waiting hr hw⟩
    | true =>
      cases hb : (nextTick s).hostBusy with
      | true => exact .inl ⟨rfl, rfl, step_of_busy hr hb hw⟩
      | false => exact .inr ⟨rfl, step_of_quiet ⟨hr, hb⟩⟩

/-- The block's own step, when it answers a next state (R145): in IDLE a wait or a command, in SEND the frame's
transmission, in VALIDATE T6, elsewhere the transition of that state. -/
theorem blockStep_next_cases (h : blockStep s = .next t) :
    (s.fsm = .idle ∧ s.cmds = [] ∧ t = s) ∨
    (s.fsm = .idle ∧ ∃ c rest i, s.cmds = c :: rest ∧ decodeCommand c = .ok i ∧
      exec i { s with cmds := rest } = .next t) ∨
    (s.fsm = .send ∧ ∃ bs, s.request = some (.twrite bs) ∧ bs.length = 5 ∧ t = frameSent bs s) ∨
    (s.fsm = .validate ∧ s.rxb.length ≠ 5 ∧ t = raiseExchange .invalidFrame s) ∨
    (s.fsm = .validate ∧ ∃ m, decodeMessage s.rxb = some m ∧ t = responseChecked m s) ∨
    (s.fsm = .awaitResponse ∧ ∃ n, s.request = some (.tread n) ∧ t = responseRead n s) ∨
    (s.fsm = .drain ∧ ∃ n, s.request = some (.tread n) ∧ t = drainRead n s) ∨
    ((s.fsm = .done ∨ s.fsm = .failed) ∧ t = takeResult s) := by
  cases hf : s.fsm with
  | idle =>
    cases hc : s.cmds with
    | nil =>
      simp only [blockStep, fetch, hf, hc, advance, Host.Outcome.next.injEq] at h
      simp [h]
    | cons c rest =>
      simp only [blockStep, fetch, hf, hc, runRaw, decodeRaw] at h
      cases hd : decodeCommand c with
      | error r => simp [hd, rejected] at h
      | ok i =>
        rw [hd] at h
        exact .inr (.inl ⟨rfl, c, rest, i, rfl, hd, h⟩)
  | send =>
    refine .inr (.inr (.inl ⟨rfl, ?_⟩))
    simp only [blockStep, fetch, hf] at h
    cases hr : s.request with
    | none => simp [hr, advance, hf] at h
    | some q =>
      cases q with
      | tread n => simp [hr, advance, hf] at h
      | twrite bs =>
        simp only [hr, runRaw, decodeRaw] at h
        cases hm : decodeMessage bs with
        | none => simp [hm, rejected, hf] at h
        | some m =>
          simp only [hm] at h
          obtain ⟨b0, b1, b2, b3, b4, rfl, rfl⟩ := (decodeMessage_eq_some_iff _ _).1 hm
          have := (exec_requestClass_next_iff.1 h).2
          rw [frameBytes_messageOfBytes] at this
          exact ⟨_, rfl, rfl, this⟩
  | validate =>
    simp only [blockStep, fetch, hf, runRaw, decodeRaw] at h
    cases hm : decodeMessage s.rxb with
    | none =>
      simp only [hm, rejected, hf, if_true, Host.Outcome.next.injEq] at h
      exact .inr (.inr (.inr (.inl ⟨rfl, (decodeMessage_eq_none_iff _).1 hm, h.symm⟩)))
    | some m =>
      simp only [hm] at h
      exact .inr (.inr (.inr (.inr (.inl ⟨rfl, m, rfl, (exec_responseClass_next_iff.1 h).2⟩))))
  | awaitResponse =>
    simp only [blockStep, fetch, hf, advance] at h
    cases hr : s.request with
    | none => simp [hr] at h
    | some q =>
      cases q with
      | twrite bs => simp [hr] at h
      | tread n =>
        simp only [hr, Host.Outcome.next.injEq] at h
        simp [h.symm]
  | drain =>
    simp only [blockStep, fetch, hf, advance] at h
    cases hr : s.request with
    | none => simp [hr] at h
    | some q =>
      cases q with
      | twrite bs => simp [hr] at h
      | tread n =>
        simp only [hr, Host.Outcome.next.injEq] at h
        simp [h.symm]
  | done =>
    simp only [blockStep, fetch, hf, advance, Host.Outcome.next.injEq] at h
    simp [h.symm]
  | failed =>
    simp only [blockStep, fetch, hf, advance, Host.Outcome.next.injEq] at h
    simp [h.symm]

/-- A command that a step runs from the port, by its `cmd.op` (R80). -/
theorem decodeCommand_ok_cases {c : CmdRecord} {i : Instr} (h : decodeCommand c = .ok i) :
    (c.op = 0#3 ∧ i = .construct c.addr c.fc c.data c.wb) ∨ (c.op = 1#3 ∧ i = .encode) ∨
    (c.op = 2#3 ∧ c.bytes.length = c.len.toNat ∧ i = .decode c.bytes) ∨ (c.op = 3#3 ∧ i = .verify c.sel) ∨
    (c.op = 4#3 ∧ i = .query) ∨ (c.op = 5#3 ∧ i = .write) ∨ (c.op = 6#3 ∧ i = .clear) ∨
    (c.op = 7#3 ∧ i = .reserved7) := by
  have h8 : ∀ o : BitVec 3, o = 0#3 ∨ o = 1#3 ∨ o = 2#3 ∨ o = 3#3 ∨ o = 4#3 ∨ o = 5#3 ∨ o = 6#3 ∨ o = 7#3 := by decide
  unfold decodeCommand at h
  rcases h8 c.op with ho | ho | ho | ho | ho | ho | ho | ho <;> simp [ho] at h ⊢
  case inr.inr.inl =>
    split at h
    · next hl => exact ⟨hl, by simpa [eq_comm] using h⟩
    · simp at h
  all_goals exact h.symm

end Sys2Proof.Machine
end

