-- ==== Sys2Proof/Laws/Run.lean ====
section
/-! SUPPORT. What a command on the port can do, one equation for the step of each FSM state under a quiet schedule, and
how such steps chain into a run. -/

namespace Sys2Proof.Machine

variable {s t u : State}

/-- Everything a command that a step takes from the port can do when it answers a next state. -/
theorem exec_command_cases {c : CmdRecord} {i : Instr} (hd : decodeCommand c = .ok i) (h : exec i s = .next t) :
    s.fsm = .idle ∧
    ((∃ K, t = raiseCodec K s) ∨
     (∃ r m, c.op = 0#3 ∧ m.ck = checksum m ∧ t = endCodec r (s.putTxf m)) ∨
     (∃ r, c.op = 1#3 ∧ s.txf.v = true ∧ t = endCodec r (s.putTxf (freshChecksum s.txf.msg))) ∨
     (∃ r m, c.op = 2#3 ∧ t = endCodec r (s.putRxf m)) ∨
     (∃ r, t = endCodec r s) ∨
     (c.op = 4#3 ∧ s.txf.v = true ∧ t = startExchange .query 1#1 s.txf.msg s) ∨
     (c.op = 5#3 ∧ s.txf.v = true ∧ t = startExchange .write 0#1 s.txf.msg s) ∨
     (c.op = 6#3 ∧ t = (s.putMode .clear).goto .drain (some (.tread drainReadLen)))) := by
  rcases decodeCommand_ok_cases hd with ⟨ho, rfl⟩ | ⟨ho, rfl⟩ | ⟨ho, _, rfl⟩ | ⟨ho, rfl⟩ | ⟨ho, rfl⟩ | ⟨ho, rfl⟩ |
    ⟨ho, rfl⟩ | ⟨ho, rfl⟩
  · obtain ⟨h1, rfl⟩ := exec_construct_next_iff.1 h
    refine ⟨h1, ?_⟩
    rcases runConstruct_cases c.addr.toNat c.fc.toNat c.data.toNat c.wb.toNat s with ⟨_, h2⟩ | ⟨m, _, h3, h2⟩
    · exact .inl ⟨_, h2⟩
    · exact .inr (.inl ⟨_, m, ho, h3, h2⟩)
  · obtain ⟨h1, h2, rfl⟩ := exec_encode_next_iff.1 h
    exact ⟨h1, .inr (.inr (.inl ⟨_, ho, h2, rfl⟩))⟩
  · obtain ⟨h1, ⟨_, rfl⟩ | ⟨m, _, rfl⟩⟩ := exec_decode_next_iff.1 h
    · exact ⟨h1, .inl ⟨_, rfl⟩⟩
    · exact ⟨h1, .inr (.inr (.inr (.inl ⟨_, m, ho, rfl⟩)))⟩
  · obtain ⟨h1, h2, rfl⟩ := exec_verify_next_iff.1 h
    exact ⟨h1, .inr (.inr (.inr (.inr (.inl ⟨_, rfl⟩))))⟩
  · obtain ⟨h1, h2, rfl⟩ := exec_query_next_iff.1 h
    exact ⟨h1, by simp [ho, h2]⟩
  · obtain ⟨h1, h2, rfl⟩ := exec_write_next_iff.1 h
    exact ⟨h1, by simp [ho, h2]⟩
  · obtain ⟨h1, rfl⟩ := exec_clear_next_iff.1 h
    exact ⟨h1, by simp [ho]⟩
  · simp [exec, execReserved7] at h

/-! ### Quiet schedules -/

theorem quietNow_of_quiet (h : s.quiet) : s.quietNow := by
  unfold State.quietNow nextTick
  cases hs : s.ticks with
  | nil => simp
  | cons t r => exact h t (by simp [hs])

theorem quiet_afterTick (h : s.quiet) : (afterTick s).quiet := fun t ht => h t (List.mem_of_mem_tail ht)

theorem step_of_blockStep (h : s.quiet) (hb : blockStep (afterTick s) = .next t) : step s = .next t := by
  rw [step_of_quiet (quietNow_of_quiet h), hb]

theorem run_succ (k : Nat) (h : step s = .next u) :
    Host.Core.run Sys2Proof.core (k + 1) s = Host.Core.run Sys2Proof.core k u := by
  have h' : Sys2Proof.core.step s = .next u := h
  simp only [Host.Core.run, h']

/-! ### The step of each FSM state -/

theorem step_starts_exchange {c : CmdRecord} {rest : List CmdRecord} {mode : Mode} (hf : s.fsm = .idle) (h : s.quiet)
    (hc : s.cmds = c :: rest) (ho : (c.op = 4#3 ∧ mode = .query) ∨ (c.op = 5#3 ∧ mode = .write)) (hv : s.txf.v = true) :
    step s = .next (startExchange mode (forcedBit mode) s.txf.msg { afterTick s with cmds := rest }) := by
  apply step_of_blockStep h
  have hfe : fetch (afterTick s) = some (.command c, { afterTick s with cmds := rest }) := by simp [fetch, hf, hc]
  rcases ho with ⟨ho, rfl⟩ | ⟨ho, rfl⟩
  · simp [blockStep, hfe, runRaw, decodeRaw, decodeCommand, ho, exec, execQuery, accept, hf, reading, hv, forcedBit]
  · simp [blockStep, hfe, runRaw, decodeRaw, decodeCommand, ho, exec, execWrite, accept, hf, reading, hv, forcedBit]

theorem step_starts_clear {c : CmdRecord} {rest : List CmdRecord} (hf : s.fsm = .idle) (h : s.quiet)
    (hc : s.cmds = c :: rest) (ho : c.op = 6#3) :
    step s =
      .next ((({ afterTick s with cmds := rest } : State).putMode .clear).goto .drain (some (.tread drainReadLen))) := by
  apply step_of_blockStep h
  have hfe : fetch (afterTick s) = some (.command c, { afterTick s with cmds := rest }) := by simp [fetch, hf, hc]
  simp [blockStep, hfe, runRaw, decodeRaw, decodeCommand, ho, exec, execClear, accept, hf]

theorem step_in_send {m : Message} (hf : s.fsm = .send) (h : s.quiet)
    (hq : s.request = some (.twrite (encodeMessage m))) : step s = .next (frameSent (encodeMessage m) (afterTick s)) := by
  apply step_of_blockStep h
  have hfe : fetch (afterTick s) = some (.request (encodeMessage m), afterTick s) := by simp [fetch, hf, hq]
  have hd : decodeMessage (encodeMessage m) = some (freshChecksum m) := decodeMessage_frameBytes _
  simp only [blockStep, hfe, runRaw, decodeRaw, hd]
  exact exec_requestClass_next_iff.2 ⟨hf, rfl⟩

theorem step_in_awaitResponse {n : Nat} (hf : s.fsm = .awaitResponse) (h : s.quiet) (hq : s.request = some (.tread n)) :
    step s = .next (responseRead n (afterTick s)) := by
  apply step_of_blockStep h
  simp [blockStep, fetch, hf, advance, hq]

theorem step_in_drain {n : Nat} (hf : s.fsm = .drain) (h : s.quiet) (hq : s.request = some (.tread n)) :
    step s = .next (drainRead n (afterTick s)) := by
  apply step_of_blockStep h
  simp [blockStep, fetch, hf, advance, hq]

theorem step_takes_result (hf : s.fsm = .done ∨ s.fsm = .failed) (h : s.quiet) :
    step s = .next (takeResult (afterTick s)) := by
  apply step_of_blockStep h
  rcases hf with hf | hf <;> simp [blockStep, fetch, hf, advance]

theorem step_in_validate_frame {m : Message} (hf : s.fsm = .validate) (h : s.quiet) (hm : decodeMessage s.rxb = some m) :
    step s = .next (responseChecked m (afterTick s)) := by
  apply step_of_blockStep h
  have hm' : decodeMessage (afterTick s).rxb = some m := hm
  simp only [blockStep, fetch, afterTick_fsm, hf, runRaw, decodeRaw, hm']
  exact exec_responseClass_next_iff.2 ⟨hf, rfl⟩

theorem step_in_validate_other (hf : s.fsm = .validate) (h : s.quiet) (hm : decodeMessage s.rxb = none) :
    step s = .next (raiseExchange .invalidFrame (afterTick s)) := by
  apply step_of_blockStep h
  have hm' : decodeMessage (afterTick s).rxb = none := hm
  simp only [blockStep, fetch, afterTick_fsm, hf, runRaw, decodeRaw, hm', rejected, if_true]

/-! ### Scripted answers -/

theorem answeredBytes_of_script {a2 : ReadAnswer} {rs : List ReadAnswer} (n : Nat) (h : s.readAnswers = a2 :: rs) :
    answeredBytes n s = toldBytes n s.line a2 := by
  unfold answeredBytes nextReadAnswer
  rw [h]
  cases a2 <;> rfl

/-! ### Arriving bytes along a run -/

theorem arrives_zero (s : State) : s.arrives 0 = (nextTick s).arrive := rfl

theorem arrives_succ (k : Nat) (h : step s = .next u) : s.arrives (k + 1) = u.arrives k := by
  unfold State.arrives
  rw [run_succ k h]

/-! ### The big-step table on a decoded response -/

theorem responseStatus_messageOfBytes (mode : Mode) (b0 b1 b2 b3 b4 : Byte) :
    responseStatus mode (messageOfBytes b0 b1 b2 b3 b4) = bigStepStatus mode .ok (some [b0, b1, b2, b3, b4]) := by
  have ha : ∀ b : Byte, (b &&& 0x7F#8).setWidth 7 = ackCode ↔ b &&& 0x7F#8 = 0x06#8 := by decide
  have hn : ∀ b : Byte, (b &&& 0x7F#8).setWidth 7 = nakCode ↔ b &&& 0x7F#8 = 0x15#8 := by decide
  have h1 : (messageOfBytes b0 b1 b2 b3 b4).fc = (b1 &&& 0x7F#8).setWidth 7 := rfl
  have h2 : (messageOfBytes b0 b1 b2 b3 b4).ck = b4 := rfl
  simp only [responseStatus, bigStepStatus, verifyChecksum, checksum_messageOfBytes, h1, h2, hn, ne_eq, ha]
  by_cases h : b4 = b0 ^^^ b1 ^^^ b2 ^^^ b3 <;> simp [h]

end Sys2Proof.Machine
end

