-- ==== Sys2Proof/Tests/Slice0.lean ====
section
/-! SUPPORT. The model's own tests and the witnesses of the statements' hypotheses. Every expected value is the spec's
(spec/95_test_vectors.md, by its section numbers) or written out by hand from spec/30_encoding.md. -/

namespace Sys2Proof.Tests

open Sys2Proof.Machine

/-- A test reads its result through this: the outcome is a next state with the property. -/
def nextWith (o : Host.Outcome State Fault Refusal) (p : State → Bool) : Bool :=
  match o with
  | .next t => p t
  | .fault _ => false
  | .refused _ => false

/-- The refusal an outcome carries. -/
def refusalOf (o : Host.Outcome State Fault Refusal) : Option Refusal :=
  match o with
  | .next _ => none
  | .fault _ => none
  | .refused r => some r

/-- The Message `(0x12, 0, 0x41, 500, 0xA6)` of spec/95 section 2.1. -/
def request500 : Message := { addr := 0x12#8, wb := 0#1, fc := 0x41#7, data := 500#16, ck := 0xA6#8 }

/-- The response Message `(0x12, 0, 0x10, 500, 0xF7)` of spec/95 section 2.3. -/
def response500 : Message := { addr := 0x12#8, wb := 0#1, fc := 0x10#7, data := 500#16, ck := 0xF7#8 }

/-- A block in IDLE with a valid request and no response, nothing presented and nothing scheduled but five quiet ticks. -/
def t0 : State :=
  { fsm := .idle, mode := .none, status := .ok, txf := { v := true, msg := request500 },
    rxf := { v := false, msg := request500 }, rxb := [], request := none, cmds := [], results := [],
    ticks := [quietTick, quietTick, quietTick, quietTick, quietTick], writeAnswers := [], readAnswers := [], line := [], txlog := [], draws := 0 }

/-- `t0` with no valid frame register. -/
def tEmpty : State := { t0 with txf := { v := false, msg := request500 } }

/-- `t0` with the response valid in RXF. -/
def tBoth : State := { t0 with rxf := { v := true, msg := response500 } }

/-- A WRITE of `request500` in SEND. -/
def tSend : State :=
  { t0 with
    fsm := .send, mode := .write, request := some (.twrite [0x12#8, 0x41#8, 0x01#8, 0xF4#8, 0xA6#8]),
    writeAnswers := [.ok] }

/-- The same in AWAIT_RESPONSE, the ACK frame of spec/95 section 2.4 and two bytes more on the line. -/
def tAwait : State :=
  { t0 with
    fsm := .awaitResponse, mode := .write, request := some (.tread 5), readAnswers := [.contract],
    line := [0x12#8, 0x06#8, 0x00#8, 0x00#8, 0x14#8, 0x55#8, 0x55#8] }

/-- The same in VALIDATE with bytes in RXB. -/
def tValidate (mode : Mode) (bs : List Byte) : State := { t0 with fsm := .validate, mode := mode, rxb := bs }

/-- A CLEAR in DRAIN. -/
def tDrain (line : List Byte) : State :=
  { t0 with fsm := .drain, mode := .clear, request := some (.tread 25), readAnswers := [.contract], line := line }

/-- A QUERY that ended with OK. -/
def tDone : State :=
  { t0 with
    fsm := .done, mode := .query, txf := { v := true, msg := { request500 with wb := 1#1, ck := 0x26#8 } },
    rxf := { v := true, msg := response500 } }

/-- A WRITE that ended with Timeout. -/
def tFailed : State := { t0 with fsm := .failed, mode := .write, status := .timeout }

/-- `t0` with one command record on the port. -/
def tPort (c : CmdRecord) : State := { t0 with cmds := [c] }

/-! ### WellFormed refuses -/

theorem test_decode_of_32_bytes_ill_formed : (Instr.decode (List.replicate 32 0#8)).wellFormed = false := by decide
theorem test_decode_of_31_bytes_well_formed : (Instr.decode (List.replicate 31 0#8)).wellFormed = true := by decide
theorem test_dat_with_ack_code_ill_formed : (Instr.dat 0x12#8 0#1 0x06#7 0#16 0x14#8).wellFormed = false := by decide
theorem test_dat_with_nak_code_ill_formed : (Instr.dat 0x12#8 0#1 0x15#7 0#16 0x07#8).wellFormed = false := by decide

/-! ### Decoding: words written out from R23, R71, R76, R80; frames of spec/95 section 2.4 -/

theorem test_decode_construct :
    decodeRaw (.command ⟨0b000#3, 0x12#8, 0xC1#8, 0x01F4#16, 0x02#8, 0#1, 0#5, []⟩) =
      .ok (.construct 0x12#8 0xC1#8 500#16 2#8) := by decide
theorem test_decode_encode : decodeRaw (.command ⟨0b001#3, 9#8, 9#8, 9#16, 9#8, 1#1, 9#5, [9#8]⟩) = .ok .encode := by
  decide
theorem test_decode_decode :
    decodeRaw (.command ⟨0b010#3, 0#8, 0#8, 0#16, 0#8, 0#1, 0b00100#5, [1#8, 2#8, 3#8, 4#8]⟩) =
      .ok (.decode [1#8, 2#8, 3#8, 4#8]) := by decide
theorem test_decode_verify_rxf :
    decodeRaw (.command ⟨0b011#3, 0#8, 0#8, 0#16, 0#8, 1#1, 0#5, []⟩) = .ok (.verify 1#1) := by decide
theorem test_decode_query : decodeRaw (.command ⟨0b100#3, 0#8, 0#8, 0#16, 0#8, 0#1, 0#5, []⟩) = .ok .query := by decide
theorem test_decode_write : decodeRaw (.command ⟨0b101#3, 0#8, 0#8, 0#16, 0#8, 0#1, 0#5, []⟩) = .ok .write := by decide
theorem test_decode_clear : decodeRaw (.command ⟨0b110#3, 0#8, 0#8, 0#16, 0#8, 0#1, 0#5, []⟩) = .ok .clear := by decide
theorem test_decode_reserved7 :
    decodeRaw (.command ⟨0b111#3, 0#8, 0#8, 0#16, 0#8, 0#1, 0#5, []⟩) = .ok .reserved7 := by decide
/-- SIMPLE 0x41, 500 is presented as op 0 with `fc`, `data` and `wb` = 0 (R84; the address is a parameter). -/
theorem test_encode_simple :
    encodeInstr (.simple 0x41#8 500#16) =
      .command ⟨0b000#3, Config.defaultAddress, 0x41#8, 0x01F4#16, 0#8, 0#1, 0#5, []⟩ := rfl
theorem test_decode_qry :
    decodeRaw (.request [0x12#8, 0b11000001#8, 0x00#8, 0x00#8, 0xD3#8]) = .ok (.qry 0x12#8 0x41#7 0#16 0xD3#8) := by
  decide
theorem test_decode_wrt :
    decodeRaw (.request [0x12#8, 0b01000001#8, 0x01#8, 0xF4#8, 0xA6#8]) = .ok (.wrt 0x12#8 0x41#7 0x01F4#16 0xA6#8) := by
  decide
theorem test_decode_ack :
    decodeRaw (.response [0x12#8, 0b10000110#8, 0x00#8, 0x00#8, 0x94#8]) = .ok (.ack 0x12#8 1#1 0#16 0x94#8) := by decide
theorem test_decode_nak :
    decodeRaw (.response [0x12#8, 0b00010101#8, 0x00#8, 0x00#8, 0x07#8]) = .ok (.nak 0x12#8 0#1 0#16 0x07#8) := by decide
theorem test_decode_dat :
    decodeRaw (.response [0x12#8, 0b00010000#8, 0x01#8, 0xF4#8, 0xF7#8]) =
      .ok (.dat 0x12#8 0#1 0x10#7 0x01F4#16 0xF7#8) := by decide
theorem test_decode_rejects_wrong_length :
    decodeRaw (.command ⟨0b010#3, 0#8, 0#8, 0#16, 0#8, 0#1, 5#5, [1#8]⟩) = .error .lengthMismatch := by decide
theorem test_decode_rejects_four_bytes : decodeRaw (.response [0x12#8, 0x06#8, 0x00#8, 0x00#8]) = .error .notAFrame := by
  decide
/-- An ACK frame as a table word: the table's own mask on bits 38 to 32 of FRAME40 (R9, R76). -/
theorem test_table_word_of_ack : decodeTableWord 40 0x1206000014 = some (.ack 0x12#8 0#1 0#16 0x14#8) := by decide

/-! ### One step of each instruction -/

/-- spec/95 section 2.1, rows 1 and 3. -/
theorem test_construct_masks_function_code :
    nextWith (exec (.construct 0x12#8 0xC1#8 500#16 0#8) tEmpty) (fun t => t.txf = ⟨true, request500⟩ ∧ t.status = .ok) =
      true := by decide
/-- spec/95 section 2.1, the row with `wb` = 2: InvalidField, TXF unchanged. -/
theorem test_construct_invalid_field :
    nextWith (exec (.construct 0x00#8 0x41#8 0#16 2#8) t0) (fun t => t.txf = t0.txf ∧ t.status = .invalidField) = true := by
  decide
/-- spec/95 section 2.1, the rows over naturals. -/
theorem test_construct_over_naturals :
    (construct 0 0x41 0x1F4F4 0).map (fun m => (m.data, m.ck)) = some (0xF4F4#16, 0x41#8) ∧
      construct 256 0x41 0 0 = none := by decide
/-- spec/95 section 2.1, the SIMPLE rows; the address is the open parameter DEFAULT_ADDRESS. -/
theorem test_simple_fields :
    (construct Config.defaultAddress.toNat 0xC1 500 0).map (fun m => (m.addr, m.wb, m.fc, m.data)) =
      some (Config.defaultAddress, 0#1, 0x41#7, 0x01F4#16) := by
  have h : ¬ Config.defaultAddress.toNat > 255 := by have := Config.defaultAddress.isLt; omega
  simp [construct, freshChecksum, h]
/-- spec/95 section 2.2: `12 41 01 F4 A6`, and the data high byte of S10. -/
theorem test_encode_bytes :
    nextWith (exec .encode { t0 with txf := ⟨true, { request500 with ck := 0#8 }⟩ })
      (fun t => t.results.map Result.bytes = [[0x12#8, 0x41#8, 0x01#8, 0xF4#8, 0xA6#8]] ∧ t.txf.msg.ck = 0xA6#8) = true := by
  decide
theorem test_encode_needs_txf : refusalOf (exec .encode tEmpty) = some (.registerInvalid .txf) := by decide
/-- spec/95 section 2.3, rows 2 and 8: a bad checksum is stored, four bytes are refused with a status. -/
theorem test_decode_keeps_bad_checksum :
    nextWith (exec (.decode [0x12#8, 0x10#8, 0x01#8, 0xF4#8, 0x00#8]) t0)
      (fun t => t.rxf = ⟨true, { response500 with ck := 0#8 }⟩ ∧ t.status = .ok) = true := by decide
theorem test_decode_of_four_bytes :
    nextWith (exec (.decode [1#8, 2#8, 3#8, 4#8]) tBoth)
      (fun t => t.rxf = tBoth.rxf ∧ t.status = .invalidFrameLength) = true := by decide
/-- spec/95 section 2.3: `VERIFY RXF` gives 1 for row 1 and 0 for row 2. -/
theorem test_verify_true :
    nextWith (exec (.verify 1#1) tBoth) (fun t => t.results.map Result.flag = [true] ∧ t.status = .ok) = true := by decide
theorem test_verify_false :
    nextWith (exec (.verify 1#1) { tBoth with rxf := ⟨true, { response500 with ck := 0#8 }⟩ })
      (fun t => t.results.map Result.flag = [false] ∧ t.status = .ok) = true := by decide
/-- spec/95 section 2.6: `12 C1 01 F4 26`. -/
theorem test_query_starts :
    nextWith (step (tPort ⟨4#3, 0#8, 0#8, 0#16, 0#8, 0#1, 0#5, []⟩))
      (fun t => t.fsm = .send ∧ t.mode = .query ∧
        t.request = some (.twrite [0x12#8, 0xC1#8, 0x01#8, 0xF4#8, 0x26#8]) ∧ t.cmds = []) = true := by decide
/-- spec/95 section 2.6: a constructed waiting bit 1 is overwritten, `12 41 01 F4 A6`. -/
theorem test_write_starts :
    nextWith (exec .write { tBoth with txf := ⟨true, { request500 with wb := 1#1, ck := 0x26#8 }⟩ })
      (fun t => t.txf = ⟨true, request500⟩ ∧ !t.rxf.v ∧
        t.request = some (.twrite [0x12#8, 0x41#8, 0x01#8, 0xF4#8, 0xA6#8])) = true := by decide
theorem test_clear_starts :
    nextWith (step (tPort ⟨6#3, 0#8, 0#8, 0#16, 0#8, 0#1, 0#5, []⟩))
      (fun t => t.fsm = .drain ∧ t.mode = .clear ∧ t.request = some (.tread 25)) = true := by decide
theorem test_reserved7_never_accepted :
    refusalOf (step (tPort ⟨7#3, 0#8, 0#8, 0#16, 0#8, 0#1, 0#5, []⟩)) = some .reservedOp := by decide
theorem test_qry_sends :
    nextWith (exec (.qry 0x12#8 0x41#7 0#16 0xD3#8) tSend)
      (fun t => t.txlog = [0x12#8, 0xC1#8, 0x00#8, 0x00#8, 0xD3#8] ∧ t.fsm = .awaitResponse ∧
        t.request = some (.tread 5)) = true := by decide
theorem test_wrt_sends :
    nextWith (step tSend) (fun t => t.txlog = [0x12#8, 0x41#8, 0x01#8, 0xF4#8, 0xA6#8] ∧ t.fsm = .awaitResponse) = true := by
  decide
theorem test_wrt_times_out :
    nextWith (step { tSend with writeAnswers := [.timeout 2] })
      (fun t => t.txlog = [0x12#8, 0x41#8] ∧ t.fsm = .failed ∧ t.status = .timeout ∧ t.request = none) = true := by decide
/-- spec/95 section 2.5, row 5: an ACK with the waiting bit set. -/
theorem test_ack_ends_write :
    nextWith (step (tValidate .write [0x12#8, 0x86#8, 0x00#8, 0x00#8, 0x94#8]))
      (fun t => t.fsm = .done ∧ t.status = .ok ∧ t.rxf.v) = true := by decide
/-- spec/95 section 2.5: `12 06 00 00 15`, bad checksum wins over ACK. -/
theorem test_ack_bad_checksum :
    nextWith (exec (.ack 0x12#8 0#1 0#16 0x15#8) (tValidate .write []))
      (fun t => t.fsm = .failed ∧ t.status = .badChecksum ∧ t.rxf.v) = true := by decide
theorem test_nak_fails_query :
    nextWith (step (tValidate .query [0x12#8, 0x15#8, 0x00#8, 0x00#8, 0x07#8]))
      (fun t => t.fsm = .failed ∧ t.status = .nak ∧ t.rxf.v) = true := by decide
theorem test_dat_is_not_acked :
    nextWith (step (tValidate .write [0x12#8, 0x10#8, 0x01#8, 0xF4#8, 0xF7#8]))
      (fun t => t.fsm = .failed ∧ t.status = .notAcked ∧ t.rxf = ⟨true, response500⟩) = true := by decide
theorem test_dat_answers_query :
    nextWith (step (tValidate .query [0x12#8, 0x10#8, 0x01#8, 0xF4#8, 0xF7#8]))
      (fun t => t.fsm = .done ∧ t.status = .ok ∧ t.rxf = ⟨true, response500⟩) = true := by decide

/-! ### Steps that run no instruction -/

/-- spec/95 section 2.5: six bytes are InvalidFrame, RXF stays invalid. -/
theorem test_six_bytes_invalid_frame :
    nextWith (step (tValidate .query [0x12#8, 0x06#8, 0x00#8, 0x00#8, 0x14#8, 0x00#8]))
      (fun t => t.fsm = .failed ∧ t.status = .invalidFrame ∧ !t.rxf.v) = true := by decide
theorem test_response_read :
    nextWith (step tAwait)
      (fun t => t.fsm = .validate ∧ t.rxb = [0x12#8, 0x06#8, 0x00#8, 0x00#8, 0x14#8] ∧ t.line = [0x55#8, 0x55#8]) = true := by
  decide
/-- spec/95 section 2.7: 30 bytes, then the remaining 5 are dropped by the timeout. -/
theorem test_drain_of_30_bytes :
    nextWith (step (tDrain (List.replicate 30 0xA0#8)))
      (fun t => t.fsm = .drain ∧ t.line.length = 5 ∧ t.request = some (.tread 25)) = true := by decide
theorem test_drain_of_5_bytes :
    nextWith (step (tDrain (List.replicate 5 0xA0#8)))
      (fun t => t.fsm = .done ∧ t.line = [] ∧ t.status = .ok) = true := by decide
theorem test_query_result :
    nextWith (step tDone)
      (fun t => t.fsm = .idle ∧ t.mode = .none ∧ t.results.map (fun r => (r.status, r.msg.data)) = [(.ok, 500#16)]) = true := by
  decide
theorem test_reset_abandons :
    nextWith (step { tSend with ticks := [{ reset := true, hostBusy := false, arrive := [] }] })
      (fun t => t.fsm = .idle ∧ t.mode = .none ∧ !t.txf.v ∧ !t.rxf.v ∧ t.request = none ∧ t.results = []) = true := by
  decide
/-- R202: with a read in progress the line buffer keeps what it held. -/
theorem test_reset_keeps_the_line :
    nextWith (step { tAwait with ticks := [{ reset := true, hostBusy := false, arrive := [] }] })
      (fun t => t.fsm = .idle ∧ t.request = none ∧ t.line = tAwait.line) = true := by decide

/-! ### Witnesses: concrete states and operands that meet all hypotheses of a statement, clause by clause

The statement's name stands after `witness_`. Statements without hypotheses have none. -/

/-- The bytes of the response Message of spec/95 section 2.3. -/
def responseBytes : List Byte := [0x12#8, 0x10#8, 0x01#8, 0xF4#8, 0xF7#8]

/-- A record that carries an operation code and no operand. -/
def record (op : BitVec 3) : CmdRecord := ⟨op, 0#8, 0#8, 0#16, 0#8, 0#1, 0#5, []⟩

/-- A tick that asserts reset. -/
def resetTick : Tick := { reset := true, hostBusy := false, arrive := [0x55#8] }

/-- A tick in which the host is busy. -/
def busyTick : Tick := { reset := false, hostBusy := true, arrive := [] }

theorem witness_ConstructOverNaturals :
    (2 ≠ 0 ∧ 2 ≠ 1) ∧ 255 < 256 ∧ (255 ≤ 255 ∧ (0 = 0 ∨ 0 = 1)) ∧ (0 ≤ 255 ∧ (1 = 0 ∨ 1 = 1)) := by decide

theorem witness_CodecRoundTrip : decodeMessage responseBytes = some response500 := by decide

theorem witness_SingleByteErrorDetected :
    decodeMessage responseBytes = some response500 ∧ verifyChecksum response500 = true ∧
      (0 < 5 ∧ responseBytes[0]? ≠ some 0x13#8) ∧ (4 < 5 ∧ responseBytes[4]? ≠ some 0x00#8) := by decide

theorem witness_EqualDoubleErrorPasses :
    decodeMessage responseBytes = some response500 ∧ verifyChecksum response500 = true ∧ 2 ≠ 3 ∧
      responseBytes[2]? = some 0x01#8 ∧ responseBytes[3]? = some 0xF4#8 := by decide

theorem witness_ReorderedFramePasses :
    decodeMessage responseBytes = some response500 ∧ verifyChecksum response500 = true ∧
      responseBytes.Perm [0xF4#8, 0xF7#8, 0x12#8, 0x10#8, 0x01#8] := by decide

theorem witness_DecodeOfEncodeIsExpansion :
    (Instr.decode (List.replicate 31 0xFF#8)).wellFormed = true ∧ (Instr.decode []).wellFormed = true ∧
      (Instr.dat 0#8 1#1 0x7F#7 0xFFFF#16 0#8).wellFormed = true ∧ (Instr.simple 0#8 0#16).wellFormed = true := by decide

theorem witness_FrameEncodingIsUnique :
    decodeRaw (.request responseBytes) = .ok (.wrt 0x12#8 0x10#7 500#16 0xF7#8) ∧
      decodeRaw (.response responseBytes) = .ok (.dat 0x12#8 0#1 0x10#7 500#16 0xF7#8) := by decide

theorem witness_DecodedIsWellFormed :
    decodeRaw (.response responseBytes) = .ok (.dat 0x12#8 0#1 0x10#7 500#16 0xF7#8) := by decide

/-- The length clause at 4 and 6 bytes, and the classes at the boundary values of byte 1. -/
theorem witness_FrameClassOfBytes :
    [1#8, 2#8, 3#8, 4#8].length ≠ 5 ∧ [1#8, 2#8, 3#8, 4#8, 5#8, 6#8].length ≠ 5 ∧
      (0x86#8).toNat % 128 = 6 ∧ (0x95#8).toNat % 128 = 21 ∧ (0x07#8).toNat % 128 ≠ 6 ∧ (0x07#8).toNat % 128 ≠ 21 ∧
      128 ≤ (0x80#8).toNat ∧ (0x7F#8).toNat < 128 := by decide

theorem witness_CommandOfOperationCode :
    (record 0#3).op.toNat = 0 ∧ (record 1#3).op.toNat = 1 ∧
      ((record 2#3).op.toNat = 2 ∧ (record 2#3).bytes.length = (record 2#3).len.toNat) ∧ (record 3#3).op.toNat = 3 ∧
      (record 4#3).op.toNat = 4 ∧ (record 5#3).op.toNat = 5 ∧ (record 6#3).op.toNat = 6 ∧ (record 7#3).op.toNat = 7 := by
  decide

theorem witness_ConstructResult : t0.fsm = .idle ∧ (1#8).toNat ≤ 1 ∧ 1 < (2#8).toNat ∧ 1 < (255#8).toNat := by decide

theorem witness_SimpleResult : tEmpty.fsm = .idle := by decide

theorem witness_EncodeResult : t0.fsm = .idle ∧ t0.txf.v = true := by decide

theorem witness_DecodeResult :
    t0.fsm = .idle ∧ [0#8, 0#8, 0#8, 0#8].length ≠ 5 ∧ [0#8, 0#8, 0#8, 0#8, 0#8, 0#8].length ≠ 5 := by decide

theorem witness_VerifyResult :
    tBoth.fsm = .idle ∧ (tBoth.txf = (if 0#1 = 0#1 then tBoth.txf else tBoth.rxf) ∧ tBoth.txf.v = true) ∧
      (tBoth.rxf = (if 1#1 = 0#1 then tBoth.txf else tBoth.rxf) ∧ tBoth.rxf.v = true) := by decide

theorem witness_InvalidRegisterNotRead : tEmpty.fsm = .idle ∧ tEmpty.txf.v = false ∧ tEmpty.rxf.v = false := by decide

theorem witness_CommandsNeedIdle : tSend.fsm ≠ .idle ∧ tDone.fsm ≠ .idle := by decide

theorem witness_ExchangeStarts :
    t0.fsm = .idle ∧ t0.txf.v = true ∧
      ({ request500 with wb := 1#1, ck := 0x26#8 } : Message) =
        { t0.txf.msg with wb := 1#1, ck := checksum { t0.txf.msg with wb := 1#1 } } ∧
      request500 = { t0.txf.msg with wb := 0#1, ck := checksum { t0.txf.msg with wb := 0#1 } } := by decide

theorem witness_ClearStarts : tEmpty.fsm = .idle := by decide

theorem witness_RequestFrameSent :
    tSend.fsm = .send ∧ nextWriteAnswer tSend = .ok ∧
      (∃ m : Message, m = { addr := 0x12#8, wb := 1#1, fc := 0x41#7, data := 0#16, ck := 0xD3#8 }) ∧
      ∃ m : Message, m = { addr := 0x12#8, wb := 0#1, fc := 0x41#7, data := 500#16, ck := 0xA6#8 } :=
  ⟨rfl, rfl, ⟨_, rfl⟩, _, rfl⟩

theorem witness_RequestFrameTimesOut :
    (tSend.fsm = .send ∧ nextWriteAnswer { tSend with writeAnswers := [.timeout 0] } = .timeout 0) ∧
      nextWriteAnswer { tSend with writeAnswers := [.timeout 5] } = .timeout 5 ∧
      (∃ m : Message, m = { addr := 0x12#8, wb := 1#1, fc := 0x41#7, data := 0#16, ck := 0xD3#8 }) ∧
      ∃ m : Message, m = { addr := 0x12#8, wb := 0#1, fc := 0x41#7, data := 500#16, ck := 0xA6#8 } :=
  ⟨⟨rfl, rfl⟩, rfl, ⟨_, rfl⟩, _, rfl⟩

theorem witness_AckFrameSucceeds :
    ∃ m : Message, (tValidate .write []).fsm = .validate ∧
      m = { addr := 0x12#8, wb := 1#1, fc := 0x06#7, data := 0#16, ck := 0x94#8 } ∧
      0x94#8 = 0x12#8 ^^^ functionByte m ^^^ dataHigh 0#16 ^^^ dataLow 0#16 := ⟨_, rfl, rfl, by decide⟩

theorem witness_NakFrameFails :
    ∃ m : Message, (tValidate .query []).fsm = .validate ∧
      m = { addr := 0x12#8, wb := 0#1, fc := 0x15#7, data := 0#16, ck := 0x07#8 } ∧
      0x07#8 = 0x12#8 ^^^ functionByte m ^^^ dataHigh 0#16 ^^^ dataLow 0#16 := ⟨_, rfl, rfl, by decide⟩

theorem witness_DatFrameByMode :
    (tValidate .query []).fsm = .validate ∧ (tValidate .write []).fsm = .validate ∧ 0x10#7 ≠ 0x06#7 ∧ 0x10#7 ≠ 0x15#7 ∧
      response500 = { addr := 0x12#8, wb := 0#1, fc := 0x10#7, data := 500#16, ck := 0xF7#8 } ∧
      0xF7#8 = 0x12#8 ^^^ functionByte response500 ^^^ dataHigh 500#16 ^^^ dataLow 500#16 ∧
      (tValidate .query []).mode ≠ .write ∧ (tValidate .write []).mode = .write := by decide

/-- A Message with the given function code and a wrong checksum, for each class of response frame. -/
def badMessage (fc : BitVec 7) : Message := { addr := 0x12#8, wb := 0#1, fc := fc, data := 0#16, ck := 0#8 }

theorem witness_BadChecksumComesFirst :
    (tValidate .write []).fsm = .validate ∧
      ∀ m ∈ [badMessage 0x06#7, badMessage 0x15#7, badMessage 0x10#7],
        m.ck ≠ m.addr ^^^ functionByte m ^^^ dataHigh m.data ^^^ dataLow m.data ∧
        ∃ i ∈ [Instr.ack m.addr m.wb m.data m.ck, .nak m.addr m.wb m.data m.ck, .dat m.addr m.wb m.fc m.data m.ck],
          (i = .ack m.addr m.wb m.data m.ck ∧ m.fc = 0x06#7) ∨ (i = .nak m.addr m.wb m.data m.ck ∧ m.fc = 0x15#7) ∨
          i = .dat m.addr m.wb m.fc m.data m.ck := by decide

theorem witness_FramesNeedTheirState : t0.fsm ≠ .send ∧ t0.fsm ≠ .validate := by decide

theorem witness_StepRunsTheDecodedInstruction :
    ((nextTick (tPort (record 5#3))).reset = false ∧ (tPort (record 5#3)).fsm = .idle ∧
      (nextTick (tPort (record 5#3))).hostBusy = false ∧ (tPort (record 5#3)).cmds = record 5#3 :: [] ∧
      decodeRaw (.command (record 5#3)) = .ok .write) ∧
    ((nextTick tSend).reset = false ∧ tSend.fsm = .send ∧
      tSend.request = some (.twrite [0x12#8, 0x41#8, 0x01#8, 0xF4#8, 0xA6#8]) ∧
      decodeRaw (.request [0x12#8, 0x41#8, 0x01#8, 0xF4#8, 0xA6#8]) = .ok (.wrt 0x12#8 0x41#7 500#16 0xA6#8)) ∧
    ((nextTick (tValidate .write responseBytes)).reset = false ∧ (tValidate .write responseBytes).fsm = .validate ∧
      decodeRaw (.response (tValidate .write responseBytes).rxb) = .ok (.dat 0x12#8 0#1 0x10#7 500#16 0xF7#8)) := by decide

theorem witness_SendStep :
    tSend.fsm = .send ∧ tSend.request = some (.twrite [0x12#8, 0x41#8, 0x01#8, 0xF4#8, 0xA6#8]) ∧
      (nextTick tSend).reset = false ∧ nextWriteAnswer (afterTick tSend) = .ok ∧
      nextWriteAnswer (afterTick { tSend with writeAnswers := [.timeout 0] }) = .timeout 0 ∧
      nextWriteAnswer (afterTick { tSend with writeAnswers := [.timeout 5] }) = .timeout 5 := by decide

theorem witness_AwaitStep :
    tAwait.fsm = .awaitResponse ∧ tAwait.request = some (.tread 5) ∧ (nextTick tAwait).reset = false ∧
      answeredBytes 5 (afterTick tAwait) = some [0x12#8, 0x06#8, 0x00#8, 0x00#8, 0x14#8] ∧
      answeredBytes 5 (afterTick { tAwait with line := [0x12#8, 0x06#8, 0x00#8, 0x00#8] }) = none := by decide

theorem witness_ValidateStep :
    ((tValidate .query []).fsm = .validate ∧ (nextTick (tValidate .query [])).reset = false ∧
      (tValidate .query []).rxb.length ≠ 5) ∧
    (tValidate .query [0#8, 0#8, 0#8, 0#8, 0#8, 0#8]).rxb.length ≠ 5 ∧
    ((tValidate .write responseBytes).fsm = .validate ∧ (nextTick (tValidate .write responseBytes)).reset = false ∧
      (tValidate .write responseBytes).rxb = [0x12#8, 0x10#8, 0x01#8, 0xF4#8, 0xF7#8] ∧
      Status.notAcked = bigStepStatus .write .ok (some (tValidate .write responseBytes).rxb)) := by decide

theorem witness_DrainStep :
    (tDrain (List.replicate 25 0#8)).fsm = .drain ∧ (tDrain (List.replicate 25 0#8)).request = some (.tread 25) ∧
      (nextTick (tDrain (List.replicate 25 0#8))).reset = false ∧
      answeredBytes 25 (afterTick (tDrain (List.replicate 25 0#8))) = some (List.replicate 25 0#8) ∧
      answeredBytes 25 (afterTick (tDrain (List.replicate 24 0#8))) = none := by decide

theorem witness_TakeResultStep :
    (tDone.fsm = .done ∧ tDone.quietNow ∧ tDone.mode = .query ∧ tDone.status = .ok) ∧
      tFailed.fsm = .failed ∧ tFailed.quietNow := by
  simp [tDone, tFailed, t0, State.quietNow, nextTick, quietTick]

theorem witness_WaitingChangesNothing :
    ((nextTick t0).reset = false ∧ t0.fsm = .idle ∧ t0.cmds = []) ∧
      ((nextTick { tFailed with ticks := [busyTick] }).reset = false ∧
        ({ tFailed with ticks := [busyTick] } : State).fsm = .failed ∧
        (nextTick { tFailed with ticks := [busyTick] }).hostBusy = true) := by decide

theorem witness_ReadConsumesTheLine :
    nextReadAnswer { t0 with readAnswers := [.timeout] } = .timeout ∧
      (nextReadAnswer tAwait = .contract ∧ 7 ≤ tAwait.line.length ∧ tAwait.line.length < 8) ∧
      (nextReadAnswer { tAwait with readAnswers := [.data [0x12#8, 0x06#8]] } = .data [0x12#8, 0x06#8] ∧
        [0x12#8, 0x06#8].length ≤ Config.rxLenMax ∧
        tAwait.line = [0x12#8, 0x06#8] ++ [0x00#8, 0x00#8, 0x14#8, 0x55#8, 0x55#8]) ∧
      (nextReadAnswer { tAwait with readAnswers := [.data (List.replicate Config.rxLenMax 0#8)] } =
          .data (List.replicate Config.rxLenMax 0#8) ∧
        (List.replicate Config.rxLenMax 0#8).length ≤ Config.rxLenMax) := by
  refine ⟨rfl, by decide, ⟨rfl, ?_, rfl⟩, rfl, by simp⟩
  exact Nat.le_trans (by decide) rxLenMax_ge

theorem witness_ResetStep :
    (nextTick { tSend with ticks := [resetTick] }).reset = true ∧
      (nextTick { tAwait with ticks := [resetTick] }).reset = true := by decide

theorem witness_TransitionTableIsComplete : (∃ t, step tSend = .next t) ∧ (nextTick tSend).reset = false :=
  ⟨⟨_, rfl⟩, rfl⟩

theorem witness_CommandsWaitOnThePort : (∃ t, step tSend = .next t) ∧ tSend.fsm ≠ .idle := ⟨⟨_, rfl⟩, by decide⟩

theorem witness_AtMostOneResultPerStep : ∃ t, step tDone = .next t := ⟨_, rfl⟩

/-- WRITE on the port for the first clause, ENCODE for the second and the last, VERIFY for the third. -/
theorem witness_FrameRegisterWriters :
    (∃ t, step (tPort (record 5#3)) = .next t) ∧ (∃ t, step (tPort (record 1#3)) = .next t) ∧
      (∃ t, step (tPort (record 3#3)) = .next t) ∧ (∀ o, (nextTick (tPort (record o))).reset = false) ∧
      (∀ c rest, (tPort (record 5#3)).fsm = .idle → (tPort (record 5#3)).cmds = c :: rest → c.op ≠ 0#3) ∧
      (∀ c rest, (tPort (record 1#3)).fsm = .idle → (tPort (record 1#3)).cmds = c :: rest →
        c.op ≠ 0#3 ∧ c.op ≠ 4#3 ∧ c.op ≠ 5#3) ∧
      (∀ c rest, (tPort (record 3#3)).fsm = .idle → (tPort (record 3#3)).cmds = c :: rest →
        c.op ≠ 0#3 ∧ c.op ≠ 1#3 ∧ c.op ≠ 4#3 ∧ c.op ≠ 5#3) ∧
      (tPort (record 1#3)).fsm ≠ .validate ∧
      ∀ c rest, (tPort (record 1#3)).fsm = .idle → (tPort (record 1#3)).cmds = c :: rest →
        c.op ≠ 2#3 ∧ c.op ≠ 4#3 ∧ c.op ≠ 5#3 := by
  refine ⟨⟨_, rfl⟩, ⟨_, rfl⟩, ⟨_, rfl⟩, fun _ => rfl, ?_, ?_, ?_, by decide, ?_⟩ <;>
    (intro c rest _ h; cases h; decide)

theorem witness_OnlyTheRequestReachesTheLine : ∃ t, step tSend = .next t := ⟨_, rfl⟩

/-- The invariant holds in the test states a run reaches. -/
theorem t0_inv : Inv t0 := by
  constructor <;>
    simp [t0, request500, expectedRequest, State.exchanging, State.exchangeMode, verifyChecksum, checksum, functionByte,
      dataHigh, dataLow]

theorem tSend_inv : Inv tSend := by
  constructor <;>
    simp [tSend, t0, request500, expectedRequest, State.exchanging, State.exchangeMode, verifyChecksum, checksum,
      functionByte, dataHigh, dataLow, encodeMessage, frameBytes, freshChecksum, forcedBit]

theorem tDone_inv : Inv tDone := by
  constructor <;>
    simp [tDone, t0, request500, response500, expectedRequest, State.exchanging, State.exchangeMode, verifyChecksum,
      checksum, functionByte, dataHigh, dataLow, forcedBit, nakCode]

theorem tFailed_inv : Inv tFailed := by
  constructor <;>
    simp [tFailed, t0, request500, expectedRequest, State.exchanging, State.exchangeMode, verifyChecksum, checksum,
      functionByte, dataHigh, dataLow, forcedBit, Status.isCommunicationError]

theorem witness_EveryStepKeepsTheInvariant : Inv tSend ∧ ∃ t, step tSend = .next t := ⟨tSend_inv, _, rfl⟩

theorem witness_NoFaultUnderTheInvariant : Inv tSend := tSend_inv

theorem witness_BusyBlockAlwaysSteps : Inv tSend ∧ tSend.fsm ≠ .idle := ⟨tSend_inv, by decide⟩

theorem witness_ExchangeGuarantee :
    (Inv tDone ∧ tDone.fsm = .done ∧ tDone.exchangeMode ∧ tDone.quietNow ∧ tDone.status = .ok) ∧
      Inv tFailed ∧ tFailed.fsm = .failed ∧ tFailed.exchangeMode ∧ tFailed.quietNow ∧ tFailed.status ≠ .ok :=
  ⟨⟨tDone_inv, by simp [tDone, t0, State.exchangeMode, State.quietNow, nextTick, quietTick]⟩, tFailed_inv,
    by simp [tFailed, t0, State.exchangeMode, State.quietNow, nextTick, quietTick]⟩

/-- `t0` with a command and scripted answers. -/
def tScript (c : CmdRecord) (ws : List WriteAnswer) (rs : List ReadAnswer) : State :=
  { tPort c with writeAnswers := ws, readAnswers := rs }

theorem tScript_quiet (c : CmdRecord) (ws : List WriteAnswer) (rs : List ReadAnswer) : (tScript c ws rs).quiet := by
  intro t ht
  simp only [tScript, tPort, t0, List.mem_cons, List.not_mem_nil, or_false, or_self] at ht
  subst ht
  decide

/-- A QUERY on a transport that keeps its contract, with these bytes on the line. -/
def tOnLine (bs : List Byte) : State := { tScript (record 4#3) [.ok] [.contract] with line := bs }

theorem tOnLine_quiet (bs : List Byte) : (tOnLine bs).quiet := tScript_quiet (record 4#3) [.ok] [.contract]

/-- A QUERY answered with a frame, one that the contract-keeping transport answers from a line of 5 bytes and one it times
out on a line of 4, and a WRITE whose transmission times out. -/
theorem witness_ExchangeBigStep :
    ((tScript (record 4#3) [.ok] [.data responseBytes]).fsm = .idle ∧
      (tScript (record 4#3) [.ok] [.data responseBytes]).quiet ∧
      (tScript (record 4#3) [.ok] [.data responseBytes]).cmds = record 4#3 :: [] ∧
      ((record 4#3).op = 4#3 ∧ Mode.query = .query) ∧
      (tScript (record 4#3) [.ok] [.data responseBytes]).txf.v = true ∧
      (tScript (record 4#3) [.ok] [.data responseBytes]).writeAnswers = .ok :: [] ∧
      (tScript (record 4#3) [.ok] [.data responseBytes]).readAnswers = .data responseBytes :: [] ∧
      { request500 with wb := 1#1, ck := 0x26#8 } = requestMessage (forcedBit .query) request500 ∧
      some responseBytes =
        toldBytes 5 (tScript (record 4#3) [.ok] [.data responseBytes]).lineAtResponse (.data responseBytes) ∧
      Status.ok = bigStepStatus .query .ok (some responseBytes)) ∧
    ((tOnLine responseBytes).quiet ∧ (tOnLine responseBytes).readAnswers = .contract :: [] ∧
      some responseBytes = toldBytes 5 (tOnLine responseBytes).lineAtResponse .contract ∧
      (tOnLine responseBytes).lineAtResponse = responseBytes ++ []) ∧
    ((tOnLine (responseBytes.take 4)).quiet ∧
      none = toldBytes 5 (tOnLine (responseBytes.take 4)).lineAtResponse .contract ∧
      Status.timeout = bigStepStatus .query .ok none) ∧
    ((tScript (record 5#3) [.timeout 3] [.timeout]).quiet ∧ ((record 5#3).op = 5#3 ∧ Mode.write = .write) ∧
      (tScript (record 5#3) [.timeout 3] [.timeout]).writeAnswers = .timeout 3 :: [] ∧
      (tScript (record 5#3) [.timeout 3] [.timeout]).readAnswers = .timeout :: [] ∧
      request500 = requestMessage (forcedBit .write) request500 ∧
      none = toldBytes 5 (tScript (record 5#3) [.timeout 3] [.timeout]).lineAtResponse .timeout ∧
      Status.timeout = bigStepStatus .write (.timeout 3) none) := by
  refine ⟨⟨rfl, tScript_quiet _ _ _, rfl, by decide, rfl, rfl, rfl, by decide, by decide, by decide⟩,
    ⟨tOnLine_quiet _, rfl, by decide, by decide⟩, ⟨tOnLine_quiet _, by decide, by decide⟩,
    tScript_quiet _ _ _, by decide, rfl, rfl, by decide, by decide, by decide⟩

theorem witness_ClearEndsAtTheFirstTimeout :
    (tScript (record 6#3) [] [.data [0x55#8], .data [], .timeout]).fsm = .idle ∧
      (tScript (record 6#3) [] [.data [0x55#8], .data [], .timeout]).quiet ∧
      (tScript (record 6#3) [] [.data [0x55#8], .data [], .timeout]).cmds = record 6#3 :: [] ∧ (record 6#3).op = 6#3 ∧
      (tScript (record 6#3) [] [.data [0x55#8], .data [], .timeout]).readAnswers =
        [[0x55#8], []].map ReadAnswer.data ++ ReadAnswer.timeout :: [] :=
  ⟨rfl, tScript_quiet _ _ _, rfl, rfl, rfl⟩

theorem witness_ClearIsNotCapped :
    (tScript (record 6#3) [] [.data [0x55#8], .data []]).fsm = .idle ∧
      (tScript (record 6#3) [] [.data [0x55#8], .data []]).quiet ∧
      (tScript (record 6#3) [] [.data [0x55#8], .data []]).cmds = record 6#3 :: [] ∧ (record 6#3).op = 6#3 ∧
      (tScript (record 6#3) [] [.data [0x55#8], .data []]).readAnswers = [[0x55#8], []].map ReadAnswer.data ++ [] :=
  ⟨rfl, tScript_quiet _ _ _, rfl, rfl, rfl⟩

/-- Two states that differ in what an earlier command left. -/
theorem witness_ExchangeForgetsEarlierCommands :
    ∃ s s' : State, s = tScript (record 5#3) [.ok] [.data responseBytes] ∧ s ≠ s' ∧
      s.fsm = .idle ∧ s.quiet ∧ s.cmds = record 5#3 :: [] ∧ ((record 5#3).op = 4#3 ∨ (record 5#3).op = 5#3) ∧
      s.txf.v = true ∧ s.writeAnswers = .ok :: [] ∧ s.readAnswers = .data responseBytes :: [] ∧
      some responseBytes = toldBytes 5 s.lineAtResponse (.data responseBytes) ∧
      s' = { s with rxf := s'.rxf, rxb := s'.rxb, status := s'.status, results := s'.results } :=
  ⟨_, { tScript (record 5#3) [.ok] [.data responseBytes] with
      rxf := ⟨true, response500⟩, rxb := [0x55#8], status := .nak, results := [] },
    rfl, by decide, rfl, tScript_quiet _ _ _, rfl, by decide, rfl, rfl, rfl, by decide, rfl⟩

end Sys2Proof.Tests
end

section
/-! SUPPORT. Acceptance and fetching as equations: what a command is answered that the block does not accept, and what a
step runs when a raw word is fetched. -/

namespace Sys2Proof.Machine

variable {s s' : State} {run : Host.Outcome State Fault Refusal}

theorem accept_of_idle (h : s.fsm = .idle) : accept s run = run := if_pos h

theorem accept_of_not_idle (h : s.fsm ≠ .idle) : accept s run = .refused .portNotReady := if_neg h

theorem reading_of_invalid {F : FrameName} {k : Message → Host.Outcome State Fault Refusal}
    (h : (s.frameReg F).v = false) : reading F s k = .refused (.registerInvalid F) := by
  simp [reading, h]

/-- A command that reads an invalid register is refused by that register's name, once the port is ready (R14). -/
theorem accept_reading_of_invalid {F : FrameName} {k : Message → Host.Outcome State Fault Refusal} (hf : s.fsm = .idle)
    (h : (s.frameReg F).v = false) : accept s (reading F s k) = .refused (.registerInvalid F) :=
  (accept_of_idle hf).trans (reading_of_invalid h)

theorem fetch_of_command {c : CmdRecord} {rest : List CmdRecord} (hf : s.fsm = .idle) (hc : s.cmds = c :: rest) :
    fetch s = some (.command c, { s with cmds := rest }) := by
  simp [fetch, hf, hc]

theorem fetch_of_request {bs : List Byte} (hf : s.fsm = .send) (hq : s.request = some (.twrite bs)) :
    fetch s = some (.request bs, s) := by
  simp [fetch, hf, hq]

theorem fetch_of_validate (hf : s.fsm = .validate) : fetch s = some (.response s.rxb, s) := by
  simp [fetch, hf]

theorem blockStep_of_fetch {w : Raw} {i : Instr} (hw : fetch s = some (w, s')) (hd : decodeRaw w = .ok i) :
    blockStep s = exec i s' := by
  simp only [blockStep, hw, runRaw, hd]

theorem blockStep_of_no_command (hf : s.fsm = .idle) (hc : s.cmds = []) : blockStep s = .next s := by
  simp [blockStep, fetch, hf, hc, advance]

theorem runRaw_ne_fault (w : Raw) (s : State) (r : Fault) : runRaw w s ≠ .fault r := by
  unfold runRaw
  split
  · exact exec_ne_fault _ s r
  · unfold rejected
    split <;> simp

/-- Where nothing is fetched, the request the FSM state names is enough for the transition to have a meaning. -/
theorem advance_ne_fault (hw : fetch s = none) (hq : s.request = expectedRequest s) (r : Fault) :
    advance s ≠ .fault r := by
  cases hf : s.fsm with
  | send => simp [fetch, hf, hq, expectedRequest] at hw
  | validate => simp [fetch, hf] at hw
  | awaitResponse => simp [advance, hf, hq, expectedRequest]
  | drain => simp [advance, hf, hq, expectedRequest]
  | idle => simp [advance, hf]
  | done => simp [advance, hf]
  | failed => simp [advance, hf]

theorem blockStep_ne_fault (hq : s.request = expectedRequest s) (r : Fault) : blockStep s ≠ .fault r := by
  unfold blockStep
  split
  · exact runRaw_ne_fault _ _ r
  · next hw => exact advance_ne_fault hw hq r

end Sys2Proof.Machine

/-! ### What decodes is well-formed -/

namespace Sys2Proof

theorem requestClass_wellFormed (m : Message) : (requestClass m).wellFormed = true := by
  unfold requestClass
  split <;> rfl

theorem responseClass_wellFormed (m : Message) : (responseClass m).wellFormed = true := by
  unfold responseClass
  split
  · rfl
  · split
    · rfl
    · next ha hn => simp [Instr.wellFormed, ha, hn]

/-- `cmd.len` counts the bytes of a DECODE record and has 5 bits (R23). -/
theorem wellFormed_of_decodeCommand {c : CmdRecord} {i : Instr} (h : decodeCommand c = .ok i) : i.wellFormed = true := by
  rcases Machine.decodeCommand_ok_cases h with ⟨_, rfl⟩ | ⟨_, rfl⟩ | ⟨_, hl, rfl⟩ | ⟨_, rfl⟩ | ⟨_, rfl⟩ | ⟨_, rfl⟩ |
    ⟨_, rfl⟩ | ⟨_, rfl⟩
  case inr.inr.inl =>
    have hlt : c.len.toNat < 2 ^ 5 := c.len.isLt
    exact decide_eq_true (by omega)
  all_goals rfl

end Sys2Proof
end

section
/-! SUPPORT. The block's transitions as one relation with a name for each row of R145, and that a step is a reset or one of
them: what every step keeps is then a case analysis over the names. -/

namespace Sys2Proof.Machine

/-- What the block may do in a step that is no reset, from the state `u` after the tick: wait, end a codec command in IDLE
(R111), or one of T1 to T10 (R135 to R144). -/
inductive Transition (u : State) : State → Prop where
  /-- no command presented, or the host is busy (R160, R186) -/
  | wait : waitsForHost u = true → Transition u u
  /-- a codec command raises a failure (R176) -/
  | codecFailure {c : CmdRecord} {rest : List CmdRecord} (K : Status) : u.fsm = .idle → u.cmds = c :: rest →
      Transition u (raiseCodec K { u with cmds := rest })
  /-- CONSTRUCT fills TXF (R102) -/
  | construct {c : CmdRecord} {rest : List CmdRecord} (r : Result) (m : Message) : u.fsm = .idle → u.cmds = c :: rest →
      c.op = 0#3 → m.ck = checksum m → Transition u (endCodec r (({ u with cmds := rest } : State).putTxf m))
  /-- ENCODE refreshes the checksum of TXF (R104) -/
  | encode {c : CmdRecord} {rest : List CmdRecord} (r : Result) : u.fsm = .idle → u.cmds = c :: rest →
      c.op = 1#3 → u.txf.v = true →
      Transition u (endCodec r (({ u with cmds := rest } : State).putTxf (freshChecksum u.txf.msg)))
  /-- DECODE fills RXF (R105) -/
  | decode {c : CmdRecord} {rest : List CmdRecord} (r : Result) (m : Message) : u.fsm = .idle → u.cmds = c :: rest →
      c.op = 2#3 → Transition u (endCodec r (({ u with cmds := rest } : State).putRxf m))
  /-- VERIFY (R106) -/
  | verify {c : CmdRecord} {rest : List CmdRecord} (r : Result) : u.fsm = .idle → u.cmds = c :: rest →
      Transition u (endCodec r { u with cmds := rest })
  /-- T1 of QUERY and WRITE (R135) -/
  | startExchange {c : CmdRecord} {rest : List CmdRecord} {mode : Mode} : u.fsm = .idle → u.cmds = c :: rest →
      (c.op = 4#3 ∧ mode = .query) ∨ (c.op = 5#3 ∧ mode = .write) → u.txf.v = true →
      Transition u (startExchange mode (forcedBit mode) u.txf.msg { u with cmds := rest })
  /-- T2 (R136) -/
  | frameSent {bs : List Byte} : u.fsm = .send → u.request = some (.twrite bs) → nextWriteAnswer u = .ok →
      Transition u (((writeDone u).transmit bs).goto .awaitResponse (some (.tread frameLen)))
  /-- T3 (R137) -/
  | frameTimeout {bs : List Byte} {sent : Nat} : u.fsm = .send → u.request = some (.twrite bs) →
      nextWriteAnswer u = .timeout sent →
      Transition u (raiseExchange .timeout ((writeDone u).transmit (bs.take sent)))
  /-- T4 (R138) -/
  | responseRead {n : Nat} {bs : List Byte} : u.fsm = .awaitResponse → u.request = some (.tread n) →
      answeredBytes n u = some bs → Transition u (((readDone n u).putRxb bs).goto .validate none)
  /-- T5 (R139) -/
  | responseTimeout {n : Nat} : u.fsm = .awaitResponse → u.request = some (.tread n) → answeredBytes n u = none →
      Transition u (raiseExchange .timeout (readDone n u))
  /-- T6 on bytes that are no frame (R140, R174) -/
  | notAFrame : u.fsm = .validate → u.rxb.length ≠ 5 → Transition u (raiseExchange .invalidFrame u)
  /-- T6 on a response that passes the tests (R140) -/
  | responseAccepted {m : Message} : u.fsm = .validate → decodeMessage u.rxb = some m → responseStatus u.mode m = .ok →
      Transition u (((u.putRxf m).putStatus .ok).goto .done none)
  /-- T6 on a response that fails a test (R140) -/
  | responseRefused {m : Message} : u.fsm = .validate → decodeMessage u.rxb = some m → responseStatus u.mode m ≠ .ok →
      Transition u (raiseExchange (responseStatus u.mode m) (u.putRxf m))
  /-- T7 (R141) -/
  | takeResult : u.fsm = .done ∨ u.fsm = .failed → Transition u (takeResult u)
  /-- T8 (R142) -/
  | startClear {c : CmdRecord} {rest : List CmdRecord} : u.fsm = .idle → u.cmds = c :: rest → c.op = 6#3 →
      Transition u ((({ u with cmds := rest } : State).putMode .clear).goto .drain (some (.tread drainReadLen)))
  /-- T9 (R143) -/
  | drainData {n : Nat} {bs : List Byte} : u.fsm = .drain → u.request = some (.tread n) → answeredBytes n u = some bs →
      Transition u ((readDone n u).goto .drain (some (.tread drainReadLen)))
  /-- T10 (R144) -/
  | drainTimeout {n : Nat} : u.fsm = .drain → u.request = some (.tread n) → answeredBytes n u = none →
      Transition u (((readDone n u).putStatus .ok).goto .done none)

variable {s t u : State}

theorem transition_of_command {c : CmdRecord} {rest : List CmdRecord} {i : Instr} (hf : u.fsm = .idle)
    (hc : u.cmds = c :: rest) (hd : decodeCommand c = .ok i) (h : exec i { u with cmds := rest } = .next t) :
    Transition u t := by
  obtain ⟨-, ⟨K, rfl⟩ | ⟨r, m, ho, hm, rfl⟩ | ⟨r, ho, hv, rfl⟩ | ⟨r, m, ho, rfl⟩ | ⟨r, rfl⟩ | ⟨ho, hv, rfl⟩ |
    ⟨ho, hv, rfl⟩ | ⟨ho, rfl⟩⟩ := exec_command_cases hd h
  · exact .codecFailure K hf hc
  · exact .construct r m hf hc ho hm
  · exact .encode r hf hc ho hv
  · exact .decode r m hf hc ho
  · exact .verify r hf hc
  · exact .startExchange (mode := .query) hf hc (.inl ⟨ho, rfl⟩) hv
  · exact .startExchange (mode := .write) hf hc (.inr ⟨ho, rfl⟩) hv
  · exact .startClear hf hc ho

theorem transition_of_blockStep (h : blockStep u = .next t) : Transition u t := by
  obtain ⟨hf, -, rfl⟩ | ⟨hf, c, rest, i, hc, hd, he⟩ | ⟨hf, bs, hq, -, rfl⟩ | ⟨hf, hl, rfl⟩ | ⟨hf, m, hm, rfl⟩ |
    ⟨hf, n, hq, rfl⟩ | ⟨hf, n, hq, rfl⟩ | ⟨hf, rfl⟩ := blockStep_next_cases h
  · exact .wait (by simp [waitsForHost, hf])
  · exact transition_of_command hf hc hd he
  · obtain ⟨ha, ht⟩ | ⟨sent, ha, ht⟩ := frameSent_cases bs u
    · exact ht ▸ .frameSent hf hq ha
    · exact ht ▸ .frameTimeout hf hq ha
  · exact .notAFrame hf hl
  · obtain ⟨hk, ht⟩ | ⟨hk, ht⟩ := responseChecked_cases m u
    · exact ht ▸ .responseAccepted hf hm hk
    · exact ht ▸ .responseRefused hf hm hk
  · obtain ⟨ha, ht⟩ | ⟨bs, ha, ht⟩ := responseRead_cases n u
    · exact ht ▸ .responseTimeout hf hq ha
    · exact ht ▸ .responseRead hf hq ha
  · obtain ⟨ha, ht⟩ | ⟨bs, ha, ht⟩ := drainRead_cases n u
    · exact ht ▸ .drainTimeout hf hq ha
    · exact ht ▸ .drainData hf hq ha
  · exact .takeResult hf

/-- A step is a reset or a transition of the block, after the tick of host and device. -/
theorem step_next_cases (h : step s = .next t) :
    ((nextTick s).reset = true ∧ t = resetBlock (afterTick s)) ∨
    ((nextTick s).reset = false ∧ Transition (afterTick s) t) := by
  obtain ⟨hr, hs⟩ | ⟨hr, hw, hs⟩ | ⟨hr, hs⟩ := step_cases s
  · exact .inl ⟨hr, (Host.Outcome.next.inj (hs.symm.trans h)).symm⟩
  · exact .inr ⟨hr, Host.Outcome.next.inj (hs.symm.trans h) ▸ .wait hw⟩
  · exact .inr ⟨hr, transition_of_blockStep (hs.symm.trans h)⟩

end Sys2Proof.Machine
end

section
/-! SUPPORT. The invariant by FSM state: what is enough for it in each, and that every transition keeps it. -/

namespace Sys2Proof.Machine

/-- What QUERY and WRITE hold from T1 to T7: the request Message in TXF, with the waiting bit the mode forces and a fresh
checksum (R135, R150). -/
structure HoldsRequest (mode : Mode) (txf : FrameReg) : Prop where
  /-- the command in progress is an exchange -/
  exchange : mode = .query ∨ mode = .write
  /-- TXF is valid -/
  valid : txf.v = true
  /-- its waiting bit is the command's -/
  forced : txf.msg.wb = forcedBit mode
  /-- its stored checksum is fresh -/
  fresh : verifyChecksum txf.msg = true

variable {s t u : State}

theorem verifyChecksum_freshChecksum (m : Message) : verifyChecksum (freshChecksum m) = true :=
  (verifyChecksum_iff _).2 rfl

theorem holdsRequest_requestMessage {mode : Mode} (h : mode = .query ∨ mode = .write) (m : Message) :
    HoldsRequest mode { v := true, msg := requestMessage (forcedBit mode) m } :=
  ⟨h, rfl, rfl, verifyChecksum_freshChecksum _⟩

theorem HoldsRequest.mode_ne_none {mode : Mode} {txf : FrameReg} (h : HoldsRequest mode txf) : mode ≠ .none := by
  rcases h.exchange with rfl | rfl <;> simp

theorem HoldsRequest.mode_ne_clear {mode : Mode} {txf : FrameReg} (h : HoldsRequest mode txf) : mode ≠ .clear := by
  rcases h.exchange with rfl | rfl <;> simp

theorem Inv.holdsRequest (h : Inv s) (hm : s.exchangeMode) : HoldsRequest s.mode s.txf :=
  have ⟨hv, hw⟩ := h.request_txf hm
  ⟨hm, hv, hw, h.txfChecksum hv⟩

/-! ### What is enough in each FSM state

The clauses that speak of another FSM state are vacuous and closed together at the end. -/

theorem inv_of_idle (hf : t.fsm = .idle) (hm : t.mode = .none) (hq : t.request = none)
    (hc : t.txf.v = true → verifyChecksum t.txf.msg = true) (hb : t.rxb.length ≤ Config.rxLenMax) : Inv t := by
  constructor
  case request => simp [expectedRequest, hf, hq]
  case modeNone => simp [hf, hm]
  case txfChecksum => exact hc
  case request_txf => simp [State.exchangeMode, hm]
  case rxbLength => exact hb
  all_goals simp [State.exchanging, hf]

theorem inv_of_exchanging (hf : t.exchanging) (hx : HoldsRequest t.mode t.txf) (hq : t.request = expectedRequest t)
    (hr : t.rxf.v = false) (hb : t.rxb.length ≤ Config.rxLenMax) : Inv t := by
  constructor
  case request => exact hq
  case modeNone => rcases hf with hf | hf | hf <;> simp [hf, hx.mode_ne_none]
  case exchangeMode => exact fun _ => hx.exchange
  case txfChecksum => exact fun _ => hx.fresh
  case request_txf => exact fun _ => ⟨hx.valid, hx.forced⟩
  case noResponse => exact fun _ => hr
  case rxbLength => exact hb
  all_goals rcases hf with hf | hf | hf <;> simp [hf]

theorem inv_of_drain (hf : t.fsm = .drain) (hm : t.mode = .clear) (hq : t.request = some (.tread drainReadLen))
    (hc : t.txf.v = true → verifyChecksum t.txf.msg = true) (hb : t.rxb.length ≤ Config.rxLenMax) : Inv t := by
  constructor
  case request => simp [expectedRequest, hf, hq]
  case modeNone => simp [hf, hm]
  case drainMode => exact fun _ => hm
  case txfChecksum => exact hc
  case request_txf => simp [State.exchangeMode, hm]
  case rxbLength => exact hb
  all_goals simp [State.exchanging, hf]

theorem inv_of_clear_done (hf : t.fsm = .done) (hm : t.mode = .clear) (hq : t.request = none) (hs : t.status = .ok)
    (hc : t.txf.v = true → verifyChecksum t.txf.msg = true) (hb : t.rxb.length ≤ Config.rxLenMax) : Inv t := by
  constructor
  case request => simp [expectedRequest, hf, hq]
  case modeNone => simp [hf, hm]
  case txfChecksum => exact hc
  case request_txf => simp [State.exchangeMode, hm]
  case rxbLength => exact hb
  case doneStatus => exact fun _ => hs
  case doneResponse => simp [State.exchangeMode, hm]
  all_goals simp [State.exchanging, hf]

theorem inv_of_exchange_done (hf : t.fsm = .done) (hx : HoldsRequest t.mode t.txf) (hq : t.request = none)
    (hs : t.status = .ok) (hb : t.rxb.length ≤ Config.rxLenMax)
    (hr : t.rxf.v = true ∧ verifyChecksum t.rxf.msg = true ∧ t.rxf.msg.fc ≠ nakCode ∧
      (t.mode = .write → t.rxf.msg.fc = ackCode)) : Inv t := by
  constructor
  case request => simp [expectedRequest, hf, hq]
  case modeNone => simp [hf, hx.mode_ne_none]
  case txfChecksum => exact fun _ => hx.fresh
  case request_txf => exact fun _ => ⟨hx.valid, hx.forced⟩
  case rxbLength => exact hb
  case doneStatus => exact fun _ => hs
  case doneResponse => exact fun _ _ => hr
  all_goals simp [State.exchanging, hf]

theorem inv_of_failed (hf : t.fsm = .failed) (hx : HoldsRequest t.mode t.txf) (hq : t.request = none)
    (hb : t.rxb.length ≤ Config.rxLenMax) (hs : t.status.isCommunicationError = true)
    (hn : t.status = .notAcked → t.mode = .write)
    (hr : t.rxf.v = true ↔ t.status = .badChecksum ∨ t.status = .nak ∨ t.status = .notAcked) : Inv t := by
  constructor
  case request => simp [expectedRequest, hf, hq]
  case modeNone => simp [hf, hx.mode_ne_none]
  case failedMode => exact fun _ => hx.mode_ne_clear
  case txfChecksum => exact fun _ => hx.fresh
  case request_txf => exact fun _ => ⟨hx.valid, hx.forced⟩
  case rxbLength => exact hb
  case failedStatus => exact fun _ => hs
  case notAckedMode => exact fun _ => hn
  case failedResponse => exact fun _ => hr
  all_goals simp [State.exchanging, hf]

/-! ### Every transition keeps it -/

theorem inv_reset : Inv State.reset :=
  inv_of_idle rfl rfl rfl (fun h => nomatch h) (List.length_take_le _ _)

theorem inv_resetBlock (s : State) : Inv (resetBlock s) :=
  inv_of_idle rfl rfl rfl (fun h => nomatch h) (List.length_take_le _ _)

/-- The tick touches nothing the invariant speaks of. -/
theorem Inv.afterTick (h : Inv s) : Inv (afterTick s) :=
  ⟨h.request, h.modeNone, h.exchangeMode, h.drainMode, h.failedMode, h.txfChecksum, h.request_txf, h.noResponse,
    h.rxbLength, h.doneStatus, h.failedStatus, h.notAckedMode, h.doneResponse, h.failedResponse⟩

/-- A codec command leaves the FSM, the request outstanding and RXB alone: what is left to show is the checksum of TXF. -/
theorem Inv.of_codec (h : Inv u) (hf : u.fsm = .idle)
    (hk : t.fsm = u.fsm ∧ t.mode = u.mode ∧ t.request = u.request ∧ t.rxb = u.rxb)
    (hc : t.txf.v = true → verifyChecksum t.txf.msg = true) : Inv t := by
  obtain ⟨htf, htm, htq, htb⟩ := hk
  have hq : u.request = none := by simp [h.request, expectedRequest, hf]
  exact inv_of_idle (htf.trans hf) (htm.trans (h.modeNone.2 hf)) (htq.trans hq) hc (htb ▸ h.rxbLength)

/-- An exchange that fails before a frame was decoded: RXF stays invalid (R182). -/
theorem Inv.of_failure_without_frame (h : Inv u) (he : u.exchanging) (hf : t.fsm = .failed)
    (hk : t.mode = u.mode ∧ t.txf = u.txf ∧ t.rxf = u.rxf ∧ t.rxb = u.rxb) (hq : t.request = none)
    (hs : t.status = .timeout ∨ t.status = .invalidFrame) : Inv t := by
  obtain ⟨htm, htx, htr, htb⟩ := hk
  have hx : HoldsRequest t.mode t.txf := htm ▸ htx ▸ h.holdsRequest (h.exchangeMode he)
  have hr : t.rxf.v = false := htr ▸ h.noResponse he
  refine inv_of_failed hf hx hq (htb ▸ h.rxbLength) ?_ ?_ ?_ <;> rcases hs with hs | hs <;>
    simp [hs, hr, Status.isCommunicationError]

/-- T6 on a frame that passes the tests ends the exchange as R161 promises. -/
theorem Inv.responseAccepted {m : Message} (h : Inv u) (hf : u.fsm = .validate) (hk : responseStatus u.mode m = .ok) :
    Inv (((u.putRxf m).putStatus .ok).goto .done none) := by
  have he : u.exchanging := .inr (.inr hf)
  have hr := responseStatus_cases u.mode m
  simp only [hk, reduceCtorEq, false_and, false_or, true_and] at hr
  exact inv_of_exchange_done rfl (h.holdsRequest (h.exchangeMode he)) rfl rfl h.rxbLength ⟨rfl, hr⟩

/-- The failures T6 can raise on a frame, all of them CommunicationErrors; NotAcked is a WRITE's (R179). -/
theorem responseStatus_of_ne_ok {mode : Mode} {m : Message} (h : responseStatus mode m ≠ .ok) :
    responseStatus mode m = .badChecksum ∨ responseStatus mode m = .nak ∨
      (responseStatus mode m = .notAcked ∧ mode = .write) := by
  obtain ⟨hk, -⟩ | ⟨hk, -⟩ | ⟨hk, -, -, hw, -⟩ | ⟨hk, -⟩ := responseStatus_cases mode m
  · exact .inl hk
  · exact .inr (.inl hk)
  · exact .inr (.inr ⟨hk, hw⟩)
  · exact absurd hk h

/-- T6 on a frame that fails a test raises one of the three failures that leave RXF valid (R179, R182). -/
theorem Inv.responseRefused {m : Message} (h : Inv u) (hf : u.fsm = .validate) (hk : responseStatus u.mode m ≠ .ok) :
    Inv (raiseExchange (responseStatus u.mode m) (u.putRxf m)) := by
  have hx : HoldsRequest u.mode u.txf := h.holdsRequest (h.exchangeMode (.inr (.inr hf)))
  obtain hk | hk | ⟨hk, hw⟩ := responseStatus_of_ne_ok hk <;> rw [hk]
  · exact inv_of_failed rfl hx rfl h.rxbLength rfl (fun h => nomatch h) (by simp)
  · exact inv_of_failed rfl hx rfl h.rxbLength rfl (fun h => nomatch h) (by simp)
  · exact inv_of_failed rfl hx rfl h.rxbLength rfl (fun _ => hw) (by simp)

/-- Each of T1 to T10, a wait and every codec command keep the invariant. -/
theorem Transition.inv (ht : Transition u t) (h : Inv u) : Inv t := by
  cases ht with
  | wait => exact h
  | codecFailure K hf => exact h.of_codec hf ⟨rfl, rfl, rfl, rfl⟩ h.txfChecksum
  | construct r m hf _ _ hm =>
    exact h.of_codec hf ⟨rfl, rfl, rfl, rfl⟩ fun _ => (verifyChecksum_iff m).2 hm
  | encode r hf => exact h.of_codec hf ⟨rfl, rfl, rfl, rfl⟩ fun _ => verifyChecksum_freshChecksum _
  | decode r m hf => exact h.of_codec hf ⟨rfl, rfl, rfl, rfl⟩ h.txfChecksum
  | verify r hf => exact h.of_codec hf ⟨rfl, rfl, rfl, rfl⟩ h.txfChecksum
  | startExchange hf _ hm =>
    have hm := hm.imp And.right And.right
    exact inv_of_exchanging (.inl rfl) (holdsRequest_requestMessage hm _) rfl rfl h.rxbLength
  | frameSent hf =>
    have he : u.exchanging := .inl hf
    exact inv_of_exchanging (.inr (.inl rfl)) (h.holdsRequest (h.exchangeMode he)) rfl (h.noResponse he) h.rxbLength
  | frameTimeout hf =>
    exact h.of_failure_without_frame (.inl hf) rfl ⟨rfl, rfl, rfl, rfl⟩ rfl (.inl rfl)
  | @responseRead n bs hf hq ha =>
    have he : u.exchanging := .inr (.inl hf)
    have hn : n = frameLen := by simpa [h.request, expectedRequest, hf, eq_comm] using hq
    have hb : bs.length ≤ Config.rxLenMax := answeredBytes_length_le (by simp [hn, frameLen]) ha
    exact inv_of_exchanging (.inr (.inr rfl)) (h.holdsRequest (h.exchangeMode he)) rfl (h.noResponse he) hb
  | responseTimeout hf =>
    exact h.of_failure_without_frame (.inr (.inl hf)) rfl ⟨rfl, rfl, rfl, rfl⟩ rfl (.inl rfl)
  | notAFrame hf => exact h.of_failure_without_frame (.inr (.inr hf)) rfl ⟨rfl, rfl, rfl, rfl⟩ rfl (.inr rfl)
  | responseAccepted hf _ hk => exact h.responseAccepted hf hk
  | responseRefused hf _ hk => exact h.responseRefused hf hk
  | takeResult => exact inv_of_idle rfl rfl rfl h.txfChecksum h.rxbLength
  | startClear => exact inv_of_drain rfl rfl rfl h.txfChecksum h.rxbLength
  | drainData hf => exact inv_of_drain rfl (h.drainMode hf) rfl h.txfChecksum h.rxbLength
  | drainTimeout hf => exact inv_of_clear_done rfl (h.drainMode hf) rfl rfl h.txfChecksum h.rxbLength

end Sys2Proof.Machine
end

section
/-! SUPPORT. What a transition does to the result port and to the frame registers. -/

namespace Sys2Proof.Machine

variable {t u : State}

/-- A codec command and T7 hand over one record, with the status they leave in STATUS, and end in IDLE (R24, R111, R141). -/
theorem Transition.results (ht : Transition u t) :
    t.results = u.results ∨ ∃ r : Result, t.results = u.results ++ [r] ∧ r.status = t.status ∧ t.fsm = .idle := by
  cases ht with
  | codecFailure K hf => exact .inr ⟨_, rfl, rfl, hf⟩
  | construct r m hf => exact .inr ⟨r, rfl, rfl, hf⟩
  | encode r hf => exact .inr ⟨r, rfl, rfl, hf⟩
  | decode r m hf => exact .inr ⟨r, rfl, rfl, hf⟩
  | verify r hf => exact .inr ⟨r, rfl, rfl, hf⟩
  | takeResult => exact .inr ⟨_, rfl, exchangeResult_status u, rfl⟩
  | _ => exact .inl rfl

/-- TXF is written by CONSTRUCT, by ENCODE in its checksum only, and at T1 in waiting bit and checksum only (R15). -/
theorem Transition.txf (ht : Transition u t) :
    t.txf = u.txf ∨
    (∃ c rest, u.fsm = .idle ∧ u.cmds = c :: rest ∧
      (c.op = 0#3 ∨
       (c.op = 1#3 ∧ u.txf.v = true ∧ t.txf = { v := true, msg := freshChecksum u.txf.msg }) ∨
       ((c.op = 4#3 ∨ c.op = 5#3) ∧ u.txf.v = true ∧
         ∃ wb, t.txf = { v := true, msg := requestMessage wb u.txf.msg }))) := by
  cases ht with
  | construct r m hf hc ho => exact .inr ⟨_, _, hf, hc, .inl ho⟩
  | encode r hf hc ho hv => exact .inr ⟨_, _, hf, hc, .inr (.inl ⟨ho, hv, rfl⟩)⟩
  | startExchange hf hc ho hv =>
    exact .inr ⟨_, _, hf, hc, .inr (.inr ⟨ho.imp And.left And.left, hv, _, rfl⟩)⟩
  | _ => exact .inl rfl

/-- RXF is written by DECODE, at T1 and at T6 (R15). -/
theorem Transition.rxf (ht : Transition u t) :
    t.rxf = u.rxf ∨ u.fsm = .validate ∨
    ∃ c rest, u.fsm = .idle ∧ u.cmds = c :: rest ∧ (c.op = 2#3 ∨ c.op = 4#3 ∨ c.op = 5#3) := by
  cases ht with
  | decode r m hf hc ho => exact .inr (.inr ⟨_, _, hf, hc, .inl ho⟩)
  | startExchange hf hc ho => exact .inr (.inr ⟨_, _, hf, hc, .inr (ho.imp And.left And.left)⟩)
  | responseAccepted hf => exact .inr (.inl hf)
  | responseRefused hf => exact .inr (.inl hf)
  | _ => exact .inl rfl

end Sys2Proof.Machine
end

section
/-! The obligations of spec/10_state.md. -/

namespace Sys2Proof.Machine

/-- Settles O49: a reset sets up the invariant anew, and every transition of the block keeps it. -/
theorem everyStepKeepsTheInvariant : Obligations.EveryStepKeepsTheInvariant := by
  intro s t h hs
  obtain ⟨-, rfl⟩ | ⟨-, ht⟩ := step_next_cases hs
  · exact inv_resetBlock _
  · exact ht.inv h.afterTick

/-- Settles O11: by the kind of raw word, from the classes of frame and the table of commands. -/
theorem decodedIsWellFormed : Obligations.DecodedIsWellFormed := by
  intro w i h
  cases w with
  | command c => exact wellFormed_of_decodeCommand h
  | request bs =>
    simp only [decodeRaw] at h
    split at h
    · exact Except.ok.inj h ▸ requestClass_wellFormed _
    · cases h
  | response bs =>
    simp only [decodeRaw] at h
    split at h
    · exact Except.ok.inj h ▸ responseClass_wellFormed _
    · cases h

/-- Settles O45: a reset hands over nothing, a transition at most one record. -/
theorem atMostOneResultPerStep : Obligations.AtMostOneResultPerStep := by
  intro s t h
  obtain ⟨-, rfl⟩ | ⟨-, ht⟩ := step_next_cases h
  · exact .inl rfl
  · exact ht.results

/-- Settles O46: from the writers of TXF and of RXF among the transitions. -/
theorem frameRegisterWriters : Obligations.FrameRegisterWriters := by
  intro s t h hr
  obtain ⟨hr', -⟩ | ⟨-, ht⟩ := step_next_cases h
  · simp [hr] at hr'
  refine ⟨fun hn => ?_, fun hn => ?_, fun hn => ?_, fun hv hn => ?_⟩
  · obtain hx | ⟨c, rest, hf, hc, ho | ⟨-, hv, hx⟩ | ⟨-, hv, wb, hx⟩⟩ := ht.txf
    · simp [hx]
    · exact absurd ho (hn c rest hf hc)
    · simpa [hx, freshChecksum] using hv
    · simpa [hx, requestMessage, freshChecksum] using hv
  · obtain hx | ⟨c, rest, hf, hc, ho | ⟨-, -, hx⟩ | ⟨ho, -⟩⟩ := ht.txf
    · simp [hx]
    · exact absurd ho (hn c rest hf hc).1
    · simp [hx, freshChecksum]
    · exact absurd ho (not_or.2 (hn c rest hf hc).2)
  · obtain hx | ⟨c, rest, hf, hc, ho | ⟨ho, -⟩ | ⟨ho, -⟩⟩ := ht.txf
    · exact hx
    · exact absurd ho (hn c rest hf hc).1
    · exact absurd ho (hn c rest hf hc).2.1
    · exact absurd ho (not_or.2 (hn c rest hf hc).2.2)
  · obtain hx | hf | ⟨c, rest, hf, hc, ho⟩ := ht.rxf
    · exact hx
    · exact absurd hf hv
    · obtain ⟨h2, h45⟩ := hn c rest hf hc
      exact absurd ho (not_or.2 ⟨h2, not_or.2 h45⟩)

/-- Settles O50: the request the invariant names is the one each transition needs. -/
theorem noFaultUnderTheInvariant : Obligations.NoFaultUnderTheInvariant := by
  intro s h r
  obtain ⟨-, hs⟩ | ⟨-, -, hs⟩ | ⟨-, hs⟩ := step_cases s
  · simp [hs]
  · simp [hs]
  · rw [hs]
    exact blockStep_ne_fault h.afterTick.request r

/-- Settles O15: each number is the spec's by the definition of `code`. -/
theorem codeNumbers : Obligations.CodeNumbers := ⟨rfl, rfl, rfl⟩

/-- Settles O21: every command that reads a register asks for its valid bit first. -/
theorem invalidRegisterNotRead : Obligations.InvalidRegisterNotRead := by
  intro s hf
  refine ⟨fun hv => ⟨?_, ?_, ?_, ?_⟩, fun hv => ?_⟩ <;> exact accept_reading_of_invalid hf hv

/-- Settles O23: every command stands behind `accept`. -/
theorem commandsNeedIdle : Obligations.CommandsNeedIdle := by
  intro s hf
  refine ⟨fun _ _ _ _ => ?_, fun _ _ => ?_, ?_, fun _ => ?_, fun _ => ?_, ?_, ?_, ?_⟩ <;>
    exact accept_of_not_idle hf

/-- Settles O33: in each of the three states that fetch, `blockStep` runs what was fetched. -/
theorem stepRunsTheDecodedInstruction : Obligations.StepRunsTheDecodedInstruction := by
  rintro s s1 i rfl hr
  refine ⟨fun c rest hf hb hc hd => ?_, fun bs hf hq hd => ?_, fun hf hd => ?_⟩
  · exact (step_of_quiet ⟨hr, hb⟩).trans (blockStep_of_fetch (fetch_of_command (s := afterTick s) hf hc) hd)
  · have hw : waitsForHost (afterTick s) = false := by simp [waitsForHost, hf]
    exact (step_of_not_waiting hr hw).trans (blockStep_of_fetch (fetch_of_request (s := afterTick s) hf hq) hd)
  · have hw : waitsForHost (afterTick s) = false := by simp [waitsForHost, hf]
    exact (step_of_not_waiting hr hw).trans (blockStep_of_fetch (fetch_of_validate (s := afterTick s) hf) hd)

/-- Settles O39: with no command the block's own step is a wait, and before a busy host there is no other. -/
theorem waitingChangesNothing : Obligations.WaitingChangesNothing := by
  rintro s hr (⟨hf, hc⟩ | ⟨hf, hb⟩)
  · cases hb : (nextTick s).hostBusy with
    | false => exact (step_of_quiet ⟨hr, hb⟩).trans (blockStep_of_no_command (s := afterTick s) hf hc)
    | true => exact step_of_busy hr hb (by simp [waitsForHost, hf])
  · exact step_of_busy hr hb (by rcases hf with hf | hf | hf <;> simp [waitsForHost, hf])

/-- Settles O42: the values `State.reset` is written with. -/
theorem resetValues : Obligations.ResetValues := ⟨rfl, rfl, rfl, rfl, rfl, rfl, rfl⟩

/-- Settles O48: reset is in IDLE with nothing outstanding and no valid register. -/
theorem resetMeetsTheInvariant : Obligations.ResetMeetsTheInvariant := inv_reset

end Sys2Proof.Machine
end

section
/-! SUPPORT. The transport port: what a TRead is answered and leaves on the line, which bytes a step hands to the line,
and that the block's own step is answered in every FSM state but IDLE. -/

namespace Sys2Proof.Machine

variable {s t u : State}

/-! ### The answer to a TRead -/

/-- What the block is told is the transport's next answer, read against the line buffer (R42, R44). -/
theorem answeredBytes_eq_toldBytes (n : Nat) (s : State) :
    answeredBytes n s = toldBytes n s.line (nextReadAnswer s) := by
  unfold answeredBytes
  cases nextReadAnswer s <;> rfl

theorem answeredBytes_of_timeout (n : Nat) (h : nextReadAnswer s = .timeout) : answeredBytes n s = none := by
  simp [answeredBytes_eq_toldBytes, h, toldBytes]

theorem answeredBytes_of_data (n : Nat) {bs : List Byte} (h : nextReadAnswer s = .data bs)
    (hl : bs.length ≤ Config.rxLenMax) : answeredBytes n s = some bs := by
  simp [answeredBytes_eq_toldBytes, h, toldBytes, List.take_of_length_le hl]

theorem answeredBytes_of_contract {n : Nat} (h : nextReadAnswer s = .contract) (hl : n ≤ s.line.length) :
    answeredBytes n s = some (s.line.take n) := by
  simp [answeredBytes_eq_toldBytes, h, toldBytes, hl]

theorem answeredBytes_of_contract_short {n : Nat} (h : nextReadAnswer s = .contract) (hl : s.line.length < n) :
    answeredBytes n s = none := by
  simp [answeredBytes_eq_toldBytes, h, toldBytes, hl]

/-- Of a line that begins with the bytes handed over, the rest stays (R42, R52). -/
theorem lineAfterAnswer_append {n : Nat} {front rest : List Byte} (h : answeredBytes n s = some front)
    (hl : s.line = front ++ rest) : lineAfterAnswer n s = rest := by
  have hp : front.isPrefixOf s.line = true := by simp [hl]
  rw [lineAfterAnswer_prefix h hp, hl, List.drop_left]

/-! ### The bytes handed to the line -/

/-- T2 and T3 hand the line the outstanding TWrite, all of it or its first bytes; no other transition sends (R136, R137). -/
theorem Transition.txlog (ht : Transition u t) :
    t.txlog = u.txlog ∨ ∃ bs k, u.request = some (.twrite bs) ∧ t.txlog = u.txlog ++ bs.take k := by
  cases ht with
  | @frameSent bs _ hq => exact .inr ⟨bs, bs.length, hq, by simp⟩
  | @frameTimeout bs sent _ hq => exact .inr ⟨bs, sent, hq, rfl⟩
  | _ => exact .inl rfl

/-- A reset sends first bytes of the TWrite it abandons, and without one nothing (R201). -/
theorem resetBlock_txlog_cases (u : State) :
    (resetBlock u).txlog = u.txlog ∨
      ∃ bs k, u.request = some (.twrite bs) ∧ (resetBlock u).txlog = u.txlog ++ bs.take k := by
  rw [resetBlock_txlog]
  unfold abandonedBytes
  split
  · next bs hq => exact .inr ⟨bs, _, hq, rfl⟩
  · exact .inl (List.append_nil _)

/-! ### The block's own step outside IDLE -/

theorem blockStep_of_send {m : Message} (hf : u.fsm = .send) (hq : u.request = some (.twrite (encodeMessage m))) :
    blockStep u = .next (frameSent (encodeMessage m) u) := by
  have hm : decodeMessage (encodeMessage m) = some (freshChecksum m) := decodeMessage_frameBytes _
  have hd : decodeRaw (.request (encodeMessage m)) = .ok (requestClass (freshChecksum m)) := by simp [decodeRaw, hm]
  exact (blockStep_of_fetch (fetch_of_request hf hq) hd).trans (exec_requestClass_next_iff.2 ⟨hf, rfl⟩)

theorem blockStep_of_validate_frame {m : Message} (hf : u.fsm = .validate) (hm : decodeMessage u.rxb = some m) :
    blockStep u = .next (responseChecked m u) := by
  have hd : decodeRaw (.response u.rxb) = .ok (responseClass m) := by simp [decodeRaw, hm]
  exact (blockStep_of_fetch (fetch_of_validate hf) hd).trans (exec_responseClass_next_iff.2 ⟨hf, rfl⟩)

theorem blockStep_of_validate_other (hf : u.fsm = .validate) (hm : decodeMessage u.rxb = none) :
    blockStep u = .next (raiseExchange .invalidFrame u) := by
  simp [blockStep, fetch_of_validate hf, runRaw, decodeRaw, hm, rejected, hf]

theorem blockStep_of_awaitResponse {n : Nat} (hf : u.fsm = .awaitResponse) (hq : u.request = some (.tread n)) :
    blockStep u = .next (responseRead n u) := by
  simp [blockStep, fetch, hf, advance, hq]

theorem blockStep_of_drain {n : Nat} (hf : u.fsm = .drain) (hq : u.request = some (.tread n)) :
    blockStep u = .next (drainRead n u) := by
  simp [blockStep, fetch, hf, advance, hq]

theorem blockStep_of_ended (hf : u.fsm = .done ∨ u.fsm = .failed) : blockStep u = .next (takeResult u) := by
  rcases hf with hf | hf <;> simp [blockStep, fetch, hf, advance]

/-- With the request outstanding that R25 names, the block is never refused outside IDLE (R43). -/
theorem blockStep_next_of_busy (hq : u.request = expectedRequest u) (hi : u.fsm ≠ .idle) :
    ∃ t, blockStep u = .next t := by
  cases hf : u.fsm with
  | idle => exact absurd hf hi
  | send => exact ⟨_, blockStep_of_send hf (by simpa [expectedRequest, hf] using hq)⟩
  | awaitResponse => exact ⟨_, blockStep_of_awaitResponse hf (by simpa [expectedRequest, hf] using hq)⟩
  | validate =>
    cases hm : decodeMessage u.rxb with
    | none => exact ⟨_, blockStep_of_validate_other hf hm⟩
    | some m => exact ⟨_, blockStep_of_validate_frame hf hm⟩
  | done => exact ⟨_, blockStep_of_ended (.inl hf)⟩
  | failed => exact ⟨_, blockStep_of_ended (.inr hf)⟩
  | drain => exact ⟨_, blockStep_of_drain hf (by simpa [expectedRequest, hf] using hq)⟩

end Sys2Proof.Machine
end

section
/-! The obligations of spec/20_memory.md. -/

namespace Sys2Proof.Machine

/-- Settles O40: by the kind of answer; what was handed over from the front of the line is split off it. -/
theorem readConsumesTheLine : Obligations.ReadConsumesTheLine := by
  intro s n
  refine ⟨fun h => ?_, fun h hl => ?_, fun h hl => ?_, fun bs h hl => ?_, fun front rest h hl hs => ?_⟩
  · have ha := answeredBytes_of_timeout n h
    exact ⟨ha, lineAfterAnswer_timeout ha⟩
  · have ha := answeredBytes_of_contract h hl
    exact ⟨ha, lineAfterAnswer_append ha (List.take_append_drop n s.line).symm⟩
  · have ha := answeredBytes_of_contract_short h hl
    exact ⟨ha, lineAfterAnswer_timeout ha⟩
  · exact answeredBytes_of_data n h hl
  · exact lineAfterAnswer_append (answeredBytes_of_data n h hl) hs

/-- Settles O47: a reset and a transition each send first bytes of the outstanding TWrite or nothing, and the tick leaves
both the request and the sent bytes alone. -/
theorem onlyTheRequestReachesTheLine : Obligations.OnlyTheRequestReachesTheLine := by
  intro s t h
  obtain ⟨-, rfl⟩ | ⟨-, ht⟩ := step_next_cases h
  · exact resetBlock_txlog_cases (afterTick s)
  · exact ht.txlog

/-- Settles O51: a reset and a wait are steps, and the block's own step is answered because the invariant names its
request. -/
theorem busyBlockAlwaysSteps : Obligations.BusyBlockAlwaysSteps := by
  intro s h hi
  obtain ⟨-, hs⟩ | ⟨-, -, hs⟩ | ⟨-, hs⟩ := step_cases s
  · exact ⟨_, hs⟩
  · exact ⟨_, hs⟩
  · rw [hs]
    exact blockStep_next_of_busy h.afterTick.request hi

end Sys2Proof.Machine
end

section
/-! SUPPORT. The encoder and the decoder of frames as equations: what a frame's bytes decode to in each direction, that
the raw form of a frame's class is the frame, and which bits of byte 1 select the class (spec/30_encoding.md R75 to
R77). -/

namespace Sys2Proof

/-! ### Decoding in each direction -/

theorem decodeRaw_request_eq_ok_iff {bs : List Byte} {i : Instr} :
    decodeRaw (.request bs) = .ok i ↔ ∃ m, decodeMessage bs = some m ∧ requestClass m = i := by
  cases h : decodeMessage bs <;> simp [decodeRaw, h]

theorem decodeRaw_response_eq_ok_iff {bs : List Byte} {i : Instr} :
    decodeRaw (.response bs) = .ok i ↔ ∃ m, decodeMessage bs = some m ∧ responseClass m = i := by
  cases h : decodeMessage bs <;> simp [decodeRaw, h]

theorem decodeRaw_request_frameBytes (m : Message) : decodeRaw (.request (frameBytes m)) = .ok (requestClass m) :=
  decodeRaw_request_eq_ok_iff.2 ⟨m, decodeMessage_frameBytes m, rfl⟩

theorem decodeRaw_response_frameBytes (m : Message) : decodeRaw (.response (frameBytes m)) = .ok (responseClass m) :=
  decodeRaw_response_eq_ok_iff.2 ⟨m, decodeMessage_frameBytes m, rfl⟩

theorem decodeRaw_request_of_length_ne {bs : List Byte} (h : bs.length ≠ 5) :
    decodeRaw (.request bs) = .error .notAFrame := by
  simp [decodeRaw, (decodeMessage_eq_none_iff bs).2 h]

theorem decodeRaw_response_of_length_ne {bs : List Byte} (h : bs.length ≠ 5) :
    decodeRaw (.response bs) = .error .notAFrame := by
  simp [decodeRaw, (decodeMessage_eq_none_iff bs).2 h]

/-! ### Encoding a class -/

/-- A Message is decoded from its own bytes only. -/
theorem frameBytes_of_decodeMessage {bs : List Byte} {m : Message} (h : decodeMessage bs = some m) :
    frameBytes m = bs := by
  obtain ⟨b0, b1, b2, b3, b4, rfl, rfl⟩ := (decodeMessage_eq_some_iff bs m).1 h
  exact frameBytes_messageOfBytes b0 b1 b2 b3 b4

theorem wb_eq_zero_of_ne_one {wb : BitVec 1} (h : wb ≠ 1#1) : wb = 0#1 :=
  (BitVec.eq_zero_or_eq_one wb).resolve_right h

/-- The class fixes the waiting bit, the one field of a request that its instruction does not carry. -/
theorem encodeInstr_requestClass (m : Message) : encodeInstr (requestClass m) = .request (frameBytes m) := by
  obtain ⟨addr, wb, fc, data, ck⟩ := m
  by_cases hw : wb = 1#1
  · subst hw
    rfl
  · obtain rfl := wb_eq_zero_of_ne_one hw
    rfl

/-- A response with neither reserved function code is a DAT (R76). -/
theorem responseClass_of_other {m : Message} (ha : m.fc ≠ Machine.ackCode) (hn : m.fc ≠ Machine.nakCode) :
    responseClass m = .dat m.addr m.wb m.fc m.data m.ck := by
  simp [responseClass, ha, hn]

/-- The class fixes the function code of an ACK and of a NAK, which their instructions do not carry. -/
theorem encodeInstr_responseClass (m : Message) : encodeInstr (responseClass m) = .response (frameBytes m) := by
  obtain ⟨addr, wb, fc, data, ck⟩ := m
  by_cases ha : fc = Machine.ackCode
  · subst ha
    rfl
  · by_cases hn : fc = Machine.nakCode
    · subst hn
      rfl
    · rw [responseClass_of_other ha hn]
      rfl

/-! ### The class and the bits of byte 1 -/

/-- A request is QRY or WRT by its waiting bit; address, function code, data and checksum stand in both (R76). -/
theorem requestClass_eq_qry_iff (m : Message) :
    (∃ fc d, requestClass m = .qry m.addr fc d m.ck) ↔ m.wb.toNat = 1 := by
  by_cases hw : m.wb = 1#1
  · simp [requestClass, hw]
  · simp [requestClass, wb_eq_zero_of_ne_one hw]

theorem requestClass_eq_wrt_iff (m : Message) :
    (∃ fc d, requestClass m = .wrt m.addr fc d m.ck) ↔ m.wb.toNat = 0 := by
  by_cases hw : m.wb = 1#1
  · simp [requestClass, hw]
  · simp [requestClass, wb_eq_zero_of_ne_one hw]

theorem fc_eq_ackCode_iff {fc : BitVec 7} : fc = Machine.ackCode ↔ fc.toNat = 6 := BitVec.toNat_eq

theorem fc_eq_nakCode_iff {fc : BitVec 7} : fc = Machine.nakCode ↔ fc.toNat = 21 := BitVec.toNat_eq

/-- A response is ACK, NAK or DAT by its function code alone (R77): the three conditions exclude each other. -/
theorem responseClass_eq_ack_iff (m : Message) :
    (∃ wb d, responseClass m = .ack m.addr wb d m.ck) ↔ m.fc.toNat = 6 := by
  rw [← fc_eq_ackCode_iff]
  unfold responseClass
  split
  · next ha => simp [ha]
  · next ha => split <;> simp [ha]

theorem responseClass_eq_nak_iff (m : Message) :
    (∃ wb d, responseClass m = .nak m.addr wb d m.ck) ↔ m.fc.toNat = 21 := by
  rw [← fc_eq_nakCode_iff]
  unfold responseClass
  split
  · next ha => simp [ha, Machine.ackCode, Machine.nakCode]
  · split <;> next hn => simp [hn]

theorem responseClass_eq_dat_iff (m : Message) :
    (∃ wb fc d, responseClass m = .dat m.addr wb fc d m.ck) ↔ m.fc.toNat ≠ 6 ∧ m.fc.toNat ≠ 21 := by
  rw [ne_eq, ne_eq, ← fc_eq_ackCode_iff, ← fc_eq_nakCode_iff]
  unfold responseClass
  split
  · next ha => simp [ha]
  · next ha => split <;> next hn => simp [ha, hn]

/-- Waiting bit and function code are quotient and remainder of byte 1 by 128 (R72). -/
theorem wb_fc_messageOfBytes (b0 b1 b2 b3 b4 : Byte) :
    (messageOfBytes b0 b1 b2 b3 b4).wb.toNat = b1.toNat / 128 ∧
      (messageOfBytes b0 b1 b2 b3 b4).fc.toNat = b1.toNat % 128 := by
  have hb := functionByte_toNat (messageOfBytes b0 b1 b2 b3 b4)
  rw [functionByte_messageOfBytes] at hb
  have hf := (messageOfBytes b0 b1 b2 b3 b4).fc.isLt
  omega

end Sys2Proof
end

section
/-! SUPPORT. CONSTRUCT on operand signals that satisfy its two tests (spec/40_codec.md R102). -/

namespace Sys2Proof.Machine

/-- The Message CONSTRUCT makes of signals that pass its tests: the function code masked, the checksum fresh. -/
def constructed (addr fc : Byte) (data : Half) (wb : BitVec 1) : Message :=
  freshChecksum { addr := addr, wb := wb, fc := BitVec.ofNat 7 fc.toNat, data := data, ck := 0#8 }

theorem constructed_fc_toNat (addr fc : Byte) (data : Half) (wb : BitVec 1) :
    (constructed addr fc data wb).fc.toNat = fc.toNat % 128 := BitVec.toNat_ofNat fc.toNat 7

/-- An address of 8 bits and a waiting bit of one pass both tests, and the masks cut off no more than the widths do. -/
theorem construct_of_signals (addr fc : Byte) (data : Half) (wb : BitVec 1) :
    construct addr.toNat fc.toNat data.toNat wb.toNat = some (constructed addr fc data wb) := by
  have ha : ¬addr.toNat > 255 := by have := addr.isLt; omega
  have hw : ¬(wb.toNat ≠ 0 ∧ wb.toNat ≠ 1) := by have := wb.isLt; omega
  have hf : BitVec.ofNat 7 (fc.toNat &&& 0x7F) = BitVec.ofNat 7 fc.toNat :=
    BitVec.eq_of_toNat_eq (by simp [Nat.and_two_pow_sub_one_eq_mod _ 7])
  have hd : BitVec.ofNat 16 (data.toNat &&& 0xFFFF) = data :=
    BitVec.eq_of_toNat_eq (by simp [Nat.and_two_pow_sub_one_eq_mod _ 16, Nat.mod_eq_of_lt data.isLt])
  simp [construct, constructed, hw, ha, hf, hd]

theorem runConstruct_of_signals (addr fc : Byte) (data : Half) (wb : BitVec 1) (s : State) :
    runConstruct addr.toNat fc.toNat data.toNat wb.toNat s =
      endCodec { bareResult .ok s with msg := constructed addr fc data wb }
        (s.putTxf (constructed addr fc data wb)) := by
  simp only [runConstruct, construct_of_signals]

end Sys2Proof.Machine
end

section
/-! The obligations of spec/30_encoding.md. -/

namespace Sys2Proof.Machine

/-- Settles O9: a frame by what its own bytes decode to, a command by its record; of a DECODE record the length signal
counts the bytes, because there are at most 31. -/
theorem decodeOfEncodeIsExpansion : Obligations.DecodeOfEncodeIsExpansion := by
  intro i hi
  cases i with
  | decode bytes => exact if_pos (Laws.RawForm.decode bytes hi)
  | qry addr fc data ck => exact decodeRaw_request_frameBytes _
  | wrt addr fc data ck => exact decodeRaw_request_frameBytes _
  | ack addr wb data ck => exact decodeRaw_response_frameBytes _
  | nak addr wb data ck => exact decodeRaw_response_frameBytes _
  | dat addr wb fc data ck =>
    have ⟨ha, hn⟩ : fc ≠ ackCode ∧ fc ≠ nakCode := by simpa [Instr.wellFormed] using hi
    exact (decodeRaw_response_frameBytes _).trans (congrArg Except.ok (responseClass_of_other ha hn))
  | _ => rfl

/-- Settles O2: the byte in question is the checksum; each byte as a number is a law of the codec. -/
theorem encodedBytesAsNumbers : Obligations.EncodedBytesAsNumbers := by
  intro m
  refine ⟨checksum m, ?_, ?_⟩
  · simp [encodeMessage, frameBytes, functionByte_toNat, dataHigh_toNat, dataLow_toNat, freshChecksum]
  · simp only [checksum, BitVec.toNat_xor, functionByte_toNat, dataHigh_toNat, dataLow_toNat]

/-- Settles O10: a class encodes to the bytes of its Message, and those are the bytes it was decoded from. -/
theorem frameEncodingIsUnique : Obligations.FrameEncodingIsUnique := by
  refine ⟨fun bs i h => ?_, fun bs i h => ?_⟩
  · obtain ⟨m, hm, rfl⟩ := decodeRaw_request_eq_ok_iff.1 h
    rw [encodeInstr_requestClass, frameBytes_of_decodeMessage hm]
  · obtain ⟨m, hm, rfl⟩ := decodeRaw_response_eq_ok_iff.1 h
    rw [encodeInstr_responseClass, frameBytes_of_decodeMessage hm]

/-- Settles O12: waiting bit and function code are byte 1's quotient and remainder by 128, and they select the class. -/
theorem frameClassOfBytes : Obligations.FrameClassOfBytes := by
  refine ⟨fun b0 b1 b2 b3 b4 => ?_, fun bs h => ⟨decodeRaw_response_of_length_ne h, decodeRaw_request_of_length_ne h⟩⟩
  have hlt := b1.isLt
  obtain ⟨hwb, hfc⟩ := wb_fc_messageOfBytes b0 b1 b2 b3 b4
  have hreq : decodeRaw (.request [b0, b1, b2, b3, b4]) = .ok (requestClass (messageOfBytes b0 b1 b2 b3 b4)) := rfl
  have hres : decodeRaw (.response [b0, b1, b2, b3, b4]) = .ok (responseClass (messageOfBytes b0 b1 b2 b3 b4)) := rfl
  simp only [hreq, hres, Except.ok.injEq, ← hfc]
  refine ⟨⟨?_, ?_, ?_⟩, ?_, ?_⟩
  · exact (responseClass_eq_ack_iff _).symm
  · exact (responseClass_eq_nak_iff _).symm
  · exact (responseClass_eq_dat_iff _).symm
  · exact Iff.trans (by omega) (requestClass_eq_qry_iff _).symm
  · exact Iff.trans (by omega) (requestClass_eq_wrt_iff _).symm

/-- Settles O13: with the operation code known, the record decodes to the table's row; DECODE also needs the length. -/
theorem commandOfOperationCode : Obligations.CommandOfOperationCode := by
  rintro ⟨op, addr, fc, data, wb, sel, len, bytes⟩
  have hop {n : Nat} (h : op.toNat = n) : op = BitVec.ofNat 3 n := by simp [← h]
  refine ⟨fun h => ?_, fun h => ?_, fun h hl => ?_, fun h => ?_, fun h => ?_, fun h => ?_, fun h => ?_, fun h => ?_⟩ <;>
    obtain rfl := hop h
  case refine_3 => exact if_pos hl
  all_goals rfl

/-- Settles O14: the decoder run on each vector. -/
theorem vectorFramesDecode : Obligations.VectorFramesDecode := ⟨rfl, rfl, rfl, rfl, rfl, rfl, rfl⟩

/-- Settles O17: the default address is a byte and the waiting bit is 0, so CONSTRUCT's tests pass. -/
theorem simpleResult : Obligations.SimpleResult := by
  intro s fc data hf
  have hrun := runConstruct_of_signals Config.defaultAddress fc data 0#1 s
  exact ⟨⟨constructed Config.defaultAddress fc data 0#1, _, rfl, rfl, constructed_fc_toNat _ _ _ _, rfl, rfl, rfl,
    exec_simple_next_iff.2 ⟨hf, hrun.symm⟩⟩, rfl, rfl⟩

/-- Settles O22: the arm of code 7 answers the refusal in every state. -/
theorem reservedCodeHasNoStep : Obligations.ReservedCodeHasNoStep := fun _ => rfl

end Sys2Proof.Machine
end

section
/-! SUPPORT. The checksum as the XOR of all five bytes of a frame (spec/40_codec.md R101): which sequences decode to
a checksum-valid Message, and what reordering the bytes or replacing one of them does to the XOR (R109). -/

namespace Sys2Proof

/-- The XOR of a byte sequence, 0 for the empty one. -/
def xorBytes (bs : List Byte) : Byte := bs.foldl (· ^^^ ·) 0#8

theorem xorBytes_cons (b : Byte) (bs : List Byte) : xorBytes (b :: bs) = b ^^^ xorBytes bs := by
  simp [xorBytes, ← List.foldl_assoc (op := fun x y : Byte => x ^^^ y)]

theorem xorBytes_perm {bs bs' : List Byte} (h : bs.Perm bs') : xorBytes bs = xorBytes bs' :=
  h.foldl_op_eq

/-- Replacing a byte takes the old one out of the XOR and the new one in. -/
theorem xorBytes_set (bs : List Byte) (i : Nat) (old new : Byte) (h : bs[i]? = some old) :
    xorBytes (bs.set i new) = xorBytes bs ^^^ (old ^^^ new) := by
  induction bs generalizing i with
  | nil => simp at h
  | cons b bs ih =>
    cases i with
    | zero =>
      obtain rfl : b = old := by simpa using h
      simp only [List.set_cons_zero, xorBytes_cons]
      rw [BitVec.xor_comm b, BitVec.xor_assoc, xor_cancel_left, BitVec.xor_comm]
    | succ i =>
      have hi : bs[i]? = some old := by simpa using h
      rw [List.set_cons_succ, xorBytes_cons, xorBytes_cons, ih i hi, BitVec.xor_assoc]

theorem xorBytes_frameBytes (m : Message) : xorBytes (frameBytes m) = checksum m ^^^ m.ck := by
  simp [xorBytes, frameBytes, checksum]

/-- A Message is checksum-valid exactly when its five bytes XOR to zero (R101). -/
theorem verifyChecksum_iff_xorBytes (m : Message) :
    Machine.verifyChecksum m = true ↔ xorBytes (frameBytes m) = 0#8 := by
  rw [verifyChecksum_iff, xorBytes_frameBytes, BitVec.xor_eq_zero_iff, eq_comm]

/-- `verify` on the Message a frame decodes to is a test of the frame's own bytes. -/
theorem verifyChecksum_of_decodeMessage {bs : List Byte} {m : Message} (h : decodeMessage bs = some m) :
    Machine.verifyChecksum m = true ↔ xorBytes bs = 0#8 := by
  rw [verifyChecksum_iff_xorBytes, frameBytes_of_decodeMessage h]

theorem length_of_decodeMessage {bs : List Byte} {m : Message} (h : decodeMessage bs = some m) : bs.length = 5 := by
  rw [← frameBytes_of_decodeMessage h, frameBytes_length]

theorem exists_decodeMessage {bs : List Byte} (h : bs.length = 5) : ∃ m, decodeMessage bs = some m :=
  Option.ne_none_iff_exists'.1 fun hn => (decodeMessage_eq_none_iff bs).1 hn h

theorem exists_valid_of_xorBytes {bs : List Byte} (hl : bs.length = 5) (hx : xorBytes bs = 0#8) :
    ∃ m, decodeMessage bs = some m ∧ Machine.verifyChecksum m = true :=
  (exists_decodeMessage hl).imp fun _ hm => ⟨hm, (verifyChecksum_of_decodeMessage hm).2 hx⟩

theorem exists_invalid_of_xorBytes {bs : List Byte} (hl : bs.length = 5) (hx : xorBytes bs ≠ 0#8) :
    ∃ m, decodeMessage bs = some m ∧ Machine.verifyChecksum m = false :=
  (exists_decodeMessage hl).imp fun _ hm =>
    ⟨hm, Bool.eq_false_iff.2 fun hv => hx ((verifyChecksum_of_decodeMessage hm).1 hv)⟩

/-- A fresh checksum leaves a Message's bytes as they were exactly when its stored checksum is valid (R108). -/
theorem encodeMessage_eq_frameBytes_iff (m : Message) :
    encodeMessage m = frameBytes m ↔ Machine.verifyChecksum m = true := by
  rw [verifyChecksum_iff, eq_comm]
  simp [encodeMessage, frameBytes, freshChecksum, functionByte]

end Sys2Proof
end

section
/-! SUPPORT. CONSTRUCT over naturals of any size: its two tests and its masks (spec/40_codec.md R102). -/

namespace Sys2Proof.Machine

variable {a w : Nat} (f d : Nat)

theorem construct_eq_none_of_waitingBit (a : Nat) (h0 : w ≠ 0) (h1 : w ≠ 1) : construct a f d w = none :=
  if_pos ⟨h0, h1⟩

theorem construct_eq_none_of_address (w : Nat) (h : 255 < a) : construct a f d w = none := by
  simp only [construct, gt_iff_lt, h, if_true, ite_self]

/-- Arguments that pass both tests give a Message with a fresh checksum, the masks being remainders. -/
theorem construct_of_fits (ha : a ≤ 255) (hw : w = 0 ∨ w = 1) :
    ∃ m, construct a f d w = some m ∧ m.addr.toNat = a ∧ m.wb.toNat = w ∧ m.fc.toNat = f % 128 ∧
      m.data.toNat = d % 65536 ∧ m.ck = checksum m := by
  have hbit : ¬(w ≠ 0 ∧ w ≠ 1) := by omega
  have haddr : ¬a > 255 := by omega
  refine ⟨_, (if_neg hbit).trans (if_neg haddr), ?_, ?_, ?_, ?_, rfl⟩
  · exact Nat.mod_eq_of_lt (by omega)
  · exact Nat.mod_eq_of_lt (by omega)
  · simp [freshChecksum, Nat.and_two_pow_sub_one_eq_mod _ 7]
  · simp [freshChecksum, Nat.and_two_pow_sub_one_eq_mod _ 16]

/-- A failed test of CONSTRUCT raises InvalidField and nothing else (R171, R176). -/
theorem runConstruct_of_none {f d : Nat} (h : construct a f d w = none) (s : State) :
    runConstruct a f d w s = raiseCodec .invalidField s := by
  simp only [runConstruct, h]

end Sys2Proof.Machine
end

section
/-! The obligations of spec/40_codec.md. -/

namespace Sys2Proof.Machine

/-- Settles O1: the two tests of CONSTRUCT, and the Message of arguments that pass them. -/
theorem constructOverNaturals : Obligations.ConstructOverNaturals := fun a f d w =>
  ⟨construct_eq_none_of_waitingBit f d a, construct_eq_none_of_address f d w, construct_of_fits f d⟩

/-- Settles O3: the XOR of the five bytes is the fresh checksum against the stored one. -/
theorem validFrameXorsToZero : Obligations.ValidFrameXorsToZero :=
  ⟨verifyChecksum_iff_xorBytes, exists_valid_of_xorBytes rfl rfl⟩

/-- Settles O4: the bytes of a Message decode to it, and a frame is the bytes of the Message it decodes to. -/
theorem codecRoundTrip : Obligations.CodecRoundTrip := by
  refine ⟨fun m => decodeMessage_frameBytes (freshChecksum m), fun bs m h => ?_⟩
  obtain rfl := frameBytes_of_decodeMessage h
  exact ⟨encodeMessage_eq_frameBytes_iff m, rfl⟩

/-- Settles O5: the XOR of the changed frame is the difference of the two bytes, which is not zero. -/
theorem singleByteErrorDetected : Obligations.SingleByteErrorDetected := by
  intro bs m h hv i b hi hne
  have hl := length_of_decodeMessage h
  have hold : bs[i]? = some bs[i] := List.getElem?_eq_getElem (by omega)
  refine exists_invalid_of_xorBytes (by rw [List.length_set, hl]) ?_
  rw [xorBytes_set bs i _ b hold, (verifyChecksum_of_decodeMessage h).1 hv, BitVec.zero_xor, ne_eq,
    BitVec.xor_eq_zero_iff]
  rintro rfl
  exact hne hold

/-- Settles O6: both changes put the same difference into the XOR, and it cancels. -/
theorem equalDoubleErrorPasses : Obligations.EqualDoubleErrorPasses := by
  intro bs m h hv i j bi bj d hij hi hj
  have hj' : (bs.set i (bi ^^^ d))[j]? = some bj := by rw [List.getElem?_set_ne hij, hj]
  refine exists_valid_of_xorBytes (by rw [List.length_set, List.length_set, length_of_decodeMessage h]) ?_
  rw [xorBytes_set _ j bj _ hj', xorBytes_set bs i bi _ hi, (verifyChecksum_of_decodeMessage h).1 hv,
    xor_cancel_left, xor_cancel_left, BitVec.zero_xor, BitVec.xor_self]

/-- Settles O7: the XOR does not depend on the order of the bytes. -/
theorem reorderedFramePasses : Obligations.ReorderedFramePasses := by
  intro bs bs' m h hv hp
  refine exists_valid_of_xorBytes (hp.length_eq ▸ length_of_decodeMessage h) ?_
  rw [← xorBytes_perm hp, (verifyChecksum_of_decodeMessage h).1 hv]

/-- Settles O16: a waiting bit of 0 or 1 is a bit, so CONSTRUCT's tests pass; any other fails the first of them. -/
theorem constructResult : Obligations.ConstructResult := by
  intro s addr fc data wb hf
  refine ⟨fun hw => ?_, fun hw => ?_⟩
  · have hbit : (wb.setWidth 1).toNat = wb.toNat := by
      rw [BitVec.toNat_setWidth, Nat.mod_eq_of_lt (by omega)]
    have hrun := runConstruct_of_signals addr fc data (wb.setWidth 1) s
    rw [hbit] at hrun
    exact ⟨constructed addr fc data (wb.setWidth 1), _, rfl, hbit, constructed_fc_toNat _ _ _ _, rfl, rfl, rfl, rfl,
      exec_construct_next_iff.2 ⟨hf, hrun.symm⟩⟩
  · have hnone := construct_eq_none_of_waitingBit fc.toNat data.toNat addr.toNat (w := wb.toNat) (by omega) (by omega)
    exact ⟨_, bareResult_status s _, exec_construct_next_iff.2 ⟨hf, (runConstruct_of_none hnone s).symm⟩⟩

/-- Settles O18: the register's Message and the bytes handed over both take the fresh checksum. -/
theorem encodeResult : Obligations.EncodeResult := fun _ hf hv =>
  ⟨_, rfl, rfl, exec_encode_next_iff.2 ⟨hf, hv, rfl⟩⟩

/-- Settles O19: five bytes decode to the Message of exactly their bits, any other number of bytes to none. -/
theorem decodeResult : Obligations.DecodeResult := by
  refine fun s hf => ⟨fun b0 b1 b2 b3 b4 => ?_, fun bs hl => ?_⟩
  · obtain ⟨hwb, hfc⟩ := wb_fc_messageOfBytes b0 b1 b2 b3 b4
    exact ⟨messageOfBytes b0 b1 b2 b3 b4, _, rfl, hwb, hfc, data_toNat b2 b3, rfl, rfl, rfl,
      exec_decode_next_iff.2 ⟨hf, .inr ⟨_, rfl, rfl⟩⟩⟩
  · have hnone := (decodeMessage_eq_none_iff bs).2 hl
    exact ⟨_, bareResult_status s _, exec_decode_next_iff.2 ⟨hf, .inl ⟨hnone, rfl⟩⟩⟩

/-- The register `sel` names, 0 for TXF and 1 for RXF (R106). -/
theorem frameReg_selected (sel : BitVec 1) (s : State) :
    s.frameReg (selected sel) = if sel = 0#1 then s.txf else s.rxf := by
  unfold selected
  split <;> rfl

/-- Settles O20: the flag is `verify` of the register `sel` names. -/
theorem verifyResult : Obligations.VerifyResult := by
  intro s sel F hf hF hv
  rw [← frameReg_selected] at hF
  subst hF
  exact ⟨_, rfl, verifyChecksum_iff _, exec_verify_next_iff.2 ⟨hf, hv, rfl⟩⟩

end Sys2Proof.Machine
end

section
/-! SUPPORT. The frame classes and T6 as equations: what a frame is answered by the FSM state, what its transmission and
its check leave behind, and which status T6's tests give (spec/41_exchange.md R136, R137, R140). -/

namespace Sys2Proof.Machine

variable {s : State} {run : Host.Outcome State Fault Refusal}

theorem frameDue_of_fsm {f : FsmState} (h : s.fsm = f) : frameDue f s run = run := if_pos h

theorem frameDue_of_ne {f : FsmState} (h : s.fsm ≠ f) : frameDue f s run = .refused .frameNotDue := if_neg h

/-! ### T2 and T3 -/

theorem frameSent_of_ok (bs : List Byte) (h : nextWriteAnswer s = .ok) :
    frameSent bs s = ((writeDone s).transmit bs).goto .awaitResponse (some (.tread frameLen)) := by
  simp only [frameSent, h]

theorem frameSent_of_timeout (bs : List Byte) {sent : Nat} (h : nextWriteAnswer s = .timeout sent) :
    frameSent bs s = raiseExchange .timeout ((writeDone s).transmit (bs.take sent)) := by
  simp only [frameSent, h]

theorem nextWriteAnswer_of_script {a1 : WriteAnswer} {ws : List WriteAnswer} (h : s.writeAnswers = a1 :: ws) :
    nextWriteAnswer s = a1 := by
  simp only [nextWriteAnswer, h]

/-! ### T4, T5, T9 and T10 -/

theorem responseRead_of_bytes {n : Nat} {bs : List Byte} (h : answeredBytes n s = some bs) :
    responseRead n s = ((readDone n s).putRxb bs).goto .validate none := by
  simp only [responseRead, h]

theorem responseRead_of_timeout {n : Nat} (h : answeredBytes n s = none) :
    responseRead n s = raiseExchange .timeout (readDone n s) := by
  simp only [responseRead, h]

theorem drainRead_of_bytes {n : Nat} {bs : List Byte} (h : answeredBytes n s = some bs) :
    drainRead n s = (readDone n s).goto .drain (some (.tread drainReadLen)) := by
  simp only [drainRead, h]

theorem drainRead_of_timeout {n : Nat} (h : answeredBytes n s = none) :
    drainRead n s = ((readDone n s).putStatus .ok).goto .done none := by
  simp only [drainRead, h]

/-! ### T6 -/

/-- T6 on a frame writes RXF, STATUS and the FSM state, and ends in DONE exactly with OK. -/
theorem responseChecked_eq (m : Message) (s : State) :
    responseChecked m s =
      { s with
        rxf := { v := true, msg := m }
        status := responseStatus s.mode m
        request := none
        fsm := if responseStatus s.mode m = .ok then .done else .failed } := by
  obtain ⟨hk, hc⟩ | ⟨hk, hc⟩ := responseChecked_cases m s
  · rw [hc, hk]
    rfl
  · rw [hc, if_neg hk]
    rfl

theorem responseStatus_of_badChecksum (mode : Mode) {m : Message} (h : m.ck ≠ checksum m) :
    responseStatus mode m = .badChecksum :=
  if_pos (Bool.eq_false_iff.2 fun hv => h ((verifyChecksum_iff m).1 hv))

/-- Of a checksum-valid response the function code decides, ACK being asked for in a WRITE only. -/
theorem responseStatus_of_valid (mode : Mode) {m : Message} (h : m.ck = checksum m) :
    responseStatus mode m =
      if m.fc = nakCode then .nak else if mode = .write ∧ m.fc ≠ ackCode then .notAcked else .ok :=
  if_neg (by simp [(verifyChecksum_iff m).2 h])

/-- A response frame in VALIDATE is T6 with the status its tests give. -/
theorem frameDue_responseChecked {m : Message} {K : Status} (hf : s.fsm = .validate)
    (hk : responseStatus s.mode m = K) :
    frameDue .validate s (.next (responseChecked m s)) =
      .next { s with
        rxf := { v := true, msg := m }, status := K, request := none, fsm := if K = .ok then .done else .failed } := by
  rw [frameDue_of_fsm hf, responseChecked_eq, hk]

/-! ### The big-step table on received bytes -/

theorem bigStepStatus_of_frame (mode : Mode) {bs : List Byte} {m : Message} (h : decodeMessage bs = some m) :
    bigStepStatus mode .ok (some bs) = responseStatus mode m := by
  obtain ⟨b0, b1, b2, b3, b4, rfl, rfl⟩ := (decodeMessage_eq_some_iff bs m).1 h
  exact (responseStatus_messageOfBytes mode b0 b1 b2 b3 b4).symm

theorem bigStepStatus_of_other (mode : Mode) {bs : List Byte} (h : decodeMessage bs = none) :
    bigStepStatus mode .ok (some bs) = .invalidFrame := by
  unfold bigStepStatus
  split
  · next he => cases he
  · next he => cases he
  · next he => cases he; simp [decodeMessage] at h
  · rfl

end Sys2Proof.Machine
end

section
/-! SUPPORT. The step where no reset comes, in the states that do not wait for the host and at T7, and what every
transition keeps of the command port and of the table of R145 (spec/41_exchange.md R141, R145, R160). -/

namespace Sys2Proof.Machine

variable {s t u : State}

/-- In a state that does not wait for the host, only a reset comes before the block's own step. -/
theorem step_of_busy_block (hr : (nextTick s).reset = false) (hw : waitsForHost s = false)
    (hb : blockStep (afterTick s) = .next t) : step s = .next t :=
  (step_of_not_waiting (s := s) hr hw).trans hb

/-- T7 in a step without reset and with a ready host (R141). -/
theorem step_of_ended (hf : s.fsm = .done ∨ s.fsm = .failed) (hq : s.quietNow) :
    step s = .next (takeResult (afterTick s)) :=
  (step_of_quiet hq).trans (blockStep_of_ended (u := afterTick s) hf)

/-- Each transition but a reset is a row of the table. -/
theorem Transition.allowed (ht : Transition u t) : transitionAllowed u.fsm t.fsm = true := by
  cases ht with
  | wait hw => cases hf : t.fsm <;> simp [waitsForHost, hf] at hw <;> rfl
  | takeResult hf => rcases hf with hf | hf <;> rw [hf] <;> rfl
  | codecFailure _ hf | construct _ _ hf | encode _ hf | decode _ _ hf | verify _ hf => simp [hf, transitionAllowed]
  | _ hf => rw [hf]; rfl

/-- Only IDLE takes a command from the port (R160). -/
theorem Transition.cmds (ht : Transition u t) (hi : u.fsm ≠ .idle) : t.cmds = u.cmds := by
  cases ht with
  | codecFailure _ hf | construct _ _ hf | encode _ hf | decode _ _ hf | verify _ hf => exact absurd hf hi
  | startExchange hf | startClear hf => exact absurd hf hi
  | _ => rfl

end Sys2Proof.Machine
end

section
/-! SUPPORT. The request frame of an exchange by its waiting bit (spec/41_exchange.md R151). -/

namespace Sys2Proof.Machine

theorem encodeMessage_requestMessage (wb : BitVec 1) (m : Message) :
    encodeMessage (requestMessage wb m) =
      [m.addr, functionByte { m with wb := wb }, dataHigh m.data, dataLow m.data, checksum { m with wb := wb }] := rfl

/-- The waiting bit is bit 7 of the function byte (R72). -/
theorem functionByte_query (m : Message) :
    functionByte { m with wb := 1#1 } = functionByte { m with wb := 0#1 } ^^^ 0x80#8 := by
  have h : ∀ f : BitVec 7,
      (((1#1).setWidth 8 <<< 7) ||| f.setWidth 8) = (((0#1).setWidth 8 <<< 7) ||| f.setWidth 8) ^^^ 0x80#8 := by decide
  exact h m.fc

/-- The XOR carries the change of the function byte into the checksum. -/
theorem checksum_query (m : Message) :
    checksum { m with wb := 1#1 } = checksum { m with wb := 0#1 } ^^^ 0x80#8 := by
  simp only [checksum, functionByte_query]
  ac_rfl

end Sys2Proof.Machine
end

section
/-! SUPPORT. Runs step by step, and CLEAR as a run: what holds while it drains, and that any number of data answers
keeps it (spec/41_exchange.md R134, R142 to R144). -/

namespace Sys2Proof.Machine

variable {s t u v : State}

/-- A run is prolonged at its end. -/
theorem run_snoc {k : Nat} (h : Host.Core.run Sys2Proof.core k s = .next u) (hs : step u = .next v) :
    Host.Core.run Sys2Proof.core (k + 1) s = .next v := by
  induction k generalizing s with
  | zero =>
    cases h
    exact run_succ 0 hs
  | succ k ih =>
    simp only [Host.Core.run] at h
    split at h
    · next w hw => exact (run_succ (k + 1) hw).trans (ih h)
    · cases h
    · cases h

theorem arrives_of_run {k : Nat} (h : Host.Core.run Sys2Proof.core k s = .next u) :
    s.arrives k = (nextTick u).arrive := by
  simp only [State.arrives, h]

/-- A CLEAR that started in `s` is draining in `u`, with the commands `rest` and the read answers `rs` still to come:
the read of R142 and R143 is outstanding, nothing was handed over or sent, and the frame registers are as they were. -/
structure Draining (s : State) (rest : List CmdRecord) (rs : List ReadAnswer) (u : State) : Prop where
  fsm : u.fsm = .drain
  request : u.request = some (.tread drainReadLen)
  quiet : u.quiet
  cmds : u.cmds = rest
  readAnswers : u.readAnswers = rs
  results : u.results = s.results
  txf : u.txf = s.txf
  rxf : u.rxf = s.rxf
  txlog : u.txlog = s.txlog

theorem exists_draining {c : CmdRecord} {rest : List CmdRecord} (hf : s.fsm = .idle) (hq : s.quiet)
    (hc : s.cmds = c :: rest) (ho : c.op = 6#3) :
    ∃ u, step s = .next u ∧ Draining s rest s.readAnswers u :=
  ⟨_, step_starts_clear hf hq hc ho, rfl, rfl, quiet_afterTick hq, rfl, rfl, rfl, rfl, rfl, rfl⟩

/-- T9: a data answer, whatever its length and content, is used up and nothing else of a drain changes. -/
theorem Draining.step_of_data {rest : List CmdRecord} {bs : List Byte} {rs : List ReadAnswer}
    (h : Draining s rest (.data bs :: rs) u) : ∃ v, step u = .next v ∧ Draining s rest rs v := by
  obtain ⟨hf, hr, hq, hc, ha, hres, ht, hx, hl⟩ := h
  have hb : answeredBytes drainReadLen (afterTick u) = some (bs.take Config.rxLenMax) :=
    answeredBytes_of_script (s := afterTick u) _ ha
  have hs := step_in_drain hf hq hr
  rw [drainRead_of_bytes hb] at hs
  exact ⟨_, hs, rfl, rfl, quiet_afterTick hq, hc, congrArg List.tail ha, hres, ht, hx, hl⟩

theorem Draining.run_of_data {rest : List CmdRecord} {datas : List (List Byte)} {rs : List ReadAnswer}
    (h : Draining s rest (datas.map ReadAnswer.data ++ rs) u) :
    ∃ v, Host.Core.run Sys2Proof.core datas.length u = .next v ∧ Draining s rest rs v := by
  induction datas generalizing u with
  | nil => exact ⟨u, rfl, h⟩
  | cons bs datas ih =>
    obtain ⟨w, hw, hd⟩ := h.step_of_data
    obtain ⟨v, hv, hd⟩ := ih hd
    exact ⟨v, (run_succ _ hw).trans hv, hd⟩

/-- T8 and then T9 once for each data answer. -/
theorem exists_draining_of_data {c : CmdRecord} {rest : List CmdRecord} {datas : List (List Byte)}
    {rs : List ReadAnswer} (hf : s.fsm = .idle) (hq : s.quiet) (hc : s.cmds = c :: rest) (ho : c.op = 6#3)
    (ha : s.readAnswers = datas.map ReadAnswer.data ++ rs) :
    ∃ u, Host.Core.run Sys2Proof.core (datas.length + 1) s = .next u ∧ Draining s rest rs u := by
  obtain ⟨w, hw, hd⟩ := exists_draining hf hq hc ho
  rw [ha] at hd
  obtain ⟨u, hu, hd⟩ := hd.run_of_data
  exact ⟨u, (run_succ _ hw).trans hu, hd⟩

/-- T10: the timeout empties the line and ends the drain with OK. -/
theorem Draining.step_of_timeout {rest : List CmdRecord} {rs : List ReadAnswer}
    (h : Draining s rest (.timeout :: rs) u) :
    step u = .next (((readDone drainReadLen (afterTick u)).putStatus .ok).goto .done none) ∧
      (readDone drainReadLen (afterTick u)).line = [] := by
  have hb : answeredBytes drainReadLen (afterTick u) = none :=
    answeredBytes_of_script (s := afterTick u) _ h.readAnswers
  exact ⟨drainRead_of_timeout hb ▸ step_in_drain h.fsm h.quiet h.request, lineAfterAnswer_timeout hb⟩

end Sys2Proof.Machine
end

section
/-! SUPPORT. QUERY and WRITE as a run: the state after each of T1, T2 and T4, and the one an exchange ends in before T7,
as functions of the state it starts in and of the answers (spec/41_exchange.md R147). -/

namespace Sys2Proof.Machine

/-- The request Message of an exchange that starts in `s` (R135). -/
def requestOf (mode : Mode) (s : State) : Message := requestMessage (forcedBit mode) s.txf.msg

/-- After T1, which takes a command from the port and leaves the commands `rest` there. -/
def afterT1 (mode : Mode) (rest : List CmdRecord) (s : State) : State :=
  startExchange mode (forcedBit mode) s.txf.msg { afterTick s with cmds := rest }

/-- After T1 and T2. -/
def afterT2 (mode : Mode) (rest : List CmdRecord) (s : State) : State :=
  ((writeDone (afterTick (afterT1 mode rest s))).transmit (encodeMessage (requestOf mode s))).goto .awaitResponse
    (some (.tread frameLen))

/-- After T1, T2 and T4 with the bytes `bs`. -/
def afterT4 (mode : Mode) (rest : List CmdRecord) (bs : List Byte) (s : State) : State :=
  ((readDone frameLen (afterTick (afterT2 mode rest s))).putRxb bs).goto .validate none

/-- The state in DONE or FAILED that an exchange reaches by T3, by T5 or by T6, on the answer `a1` to its write and
where the block is told `a` of its read. -/
def beforeT7 (mode : Mode) (rest : List CmdRecord) (a1 : WriteAnswer) (a : Option (List Byte)) (s : State) : State :=
  match a1, a with
  | .timeout sent, _ =>
    raiseExchange .timeout
      ((writeDone (afterTick (afterT1 mode rest s))).transmit ((encodeMessage (requestOf mode s)).take sent))
  | .ok, none => raiseExchange .timeout (readDone frameLen (afterTick (afterT2 mode rest s)))
  | .ok, some bs =>
    match decodeMessage bs with
    | none => raiseExchange .invalidFrame (afterTick (afterT4 mode rest bs s))
    | some m => responseChecked m (afterTick (afterT4 mode rest bs s))

variable {s : State} {mode : Mode} {rest : List CmdRecord} {a1 : WriteAnswer} {a2 : ReadAnswer} {a : Option (List Byte)}
  {ws : List WriteAnswer} {rs : List ReadAnswer}

theorem beforeT7_of_other {bs : List Byte} (hm : decodeMessage bs = none) :
    beforeT7 mode rest .ok (some bs) s = raiseExchange .invalidFrame (afterTick (afterT4 mode rest bs s)) := by
  simp only [beforeT7, hm]

theorem beforeT7_of_frame {bs : List Byte} {m : Message} (hm : decodeMessage bs = some m) :
    beforeT7 mode rest .ok (some bs) s = responseChecked m (afterTick (afterT4 mode rest bs s)) := by
  simp only [beforeT7, hm]

/-- QUERY or WRITE stands on the port of a block in IDLE that accepts it, under a quiet schedule (log 4), with `a1` and
`a2` the transport's coming answers to its write and to its read. -/
structure StartsExchange (s : State) (mode : Mode) (rest : List CmdRecord) (a1 : WriteAnswer) (ws : List WriteAnswer)
    (a2 : ReadAnswer) (rs : List ReadAnswer) : Prop where
  idle : s.fsm = .idle
  quiet : s.quiet
  port : ∃ c, s.cmds = c :: rest ∧ ((c.op = 4#3 ∧ mode = .query) ∨ (c.op = 5#3 ∧ mode = .write))
  valid : s.txf.v = true
  writeAnswers : s.writeAnswers = a1 :: ws
  readAnswers : s.readAnswers = a2 :: rs

namespace StartsExchange

theorem run_one (h : StartsExchange s mode rest a1 ws a2 rs) :
    Host.Core.run Sys2Proof.core 1 s = .next (afterT1 mode rest s) :=
  have ⟨_, hc, ho⟩ := h.port
  run_succ 0 (step_starts_exchange h.idle h.quiet hc ho h.valid)

/-- The step after T1 is the transmission of the request. -/
theorem step_afterT1 (h : StartsExchange s mode rest a1 ws a2 rs) :
    step (afterT1 mode rest s) =
      .next (frameSent (encodeMessage (requestOf mode s)) (afterTick (afterT1 mode rest s))) :=
  step_in_send (m := requestOf mode s) rfl (quiet_afterTick h.quiet) rfl

theorem nextWriteAnswer_afterT1 (h : StartsExchange s mode rest a1 ws a2 rs) :
    nextWriteAnswer (afterTick (afterT1 mode rest s)) = a1 := nextWriteAnswer_of_script (ws := ws) h.writeAnswers

theorem run_two (h : StartsExchange s mode rest .ok ws a2 rs) :
    Host.Core.run Sys2Proof.core 2 s = .next (afterT2 mode rest s) :=
  run_snoc h.run_one (h.step_afterT1.trans (congrArg Host.Outcome.next (frameSent_of_ok _ h.nextWriteAnswer_afterT1)))

theorem run_two_of_timeout {n : Nat} (h : StartsExchange s mode rest (.timeout n) ws a2 rs) :
    Host.Core.run Sys2Proof.core 2 s = .next (beforeT7 mode rest (.timeout n) a s) :=
  run_snoc h.run_one
    (h.step_afterT1.trans (congrArg Host.Outcome.next (frameSent_of_timeout _ h.nextWriteAnswer_afterT1)))

theorem step_afterT2 (h : StartsExchange s mode rest .ok ws a2 rs) :
    step (afterT2 mode rest s) = .next (responseRead frameLen (afterTick (afterT2 mode rest s))) :=
  step_in_awaitResponse rfl (quiet_afterTick (quiet_afterTick h.quiet)) rfl

/-- The response read finds the line as `lineAtResponse` says. -/
theorem line_afterT2 (h : StartsExchange s mode rest .ok ws a2 rs) :
    (afterTick (afterT2 mode rest s)).line = s.lineAtResponse := by
  simp only [State.lineAtResponse, arrives_zero, arrives_of_run h.run_one, arrives_of_run h.run_two]
  rfl

theorem answeredBytes_afterT2 (h : StartsExchange s mode rest .ok ws a2 rs) :
    answeredBytes frameLen (afterTick (afterT2 mode rest s)) = toldBytes 5 s.lineAtResponse a2 := by
  rw [← h.line_afterT2]
  exact answeredBytes_of_script (s := afterTick (afterT2 mode rest s)) frameLen h.readAnswers

theorem run_three (h : StartsExchange s mode rest .ok ws a2 rs) {bs : List Byte}
    (ha : toldBytes 5 s.lineAtResponse a2 = some bs) :
    Host.Core.run Sys2Proof.core 3 s = .next (afterT4 mode rest bs s) := by
  have hr := responseRead_of_bytes (h.answeredBytes_afterT2.trans ha)
  exact run_snoc h.run_two (h.step_afterT2.trans (congrArg Host.Outcome.next hr))

theorem run_three_of_timeout (h : StartsExchange s mode rest .ok ws a2 rs)
    (ha : toldBytes 5 s.lineAtResponse a2 = none) :
    Host.Core.run Sys2Proof.core 3 s = .next (beforeT7 mode rest .ok none s) := by
  have hr := responseRead_of_timeout (h.answeredBytes_afterT2.trans ha)
  exact run_snoc h.run_two (h.step_afterT2.trans (congrArg Host.Outcome.next hr))

theorem run_four (h : StartsExchange s mode rest .ok ws a2 rs) {bs : List Byte}
    (ha : toldBytes 5 s.lineAtResponse a2 = some bs) :
    Host.Core.run Sys2Proof.core 4 s = .next (beforeT7 mode rest .ok (some bs) s) := by
  have hq : (afterT4 mode rest bs s).quiet := quiet_afterTick (quiet_afterTick (quiet_afterTick h.quiet))
  refine run_snoc (h.run_three ha) ?_
  cases hm : decodeMessage bs with
  | none =>
    rw [beforeT7_of_other hm]
    exact step_in_validate_other rfl hq hm
  | some m =>
    rw [beforeT7_of_frame hm]
    exact step_in_validate_frame rfl hq hm

/-- All transitions but T7, by the rows of R147. -/
theorem run_beforeT7 (h : StartsExchange s mode rest a1 ws a2 rs) (ha : a = toldBytes 5 s.lineAtResponse a2) :
    Host.Core.run Sys2Proof.core (bigStepCount a1 a - 1) s = .next (beforeT7 mode rest a1 a s) := by
  subst ha
  cases a1 with
  | timeout n => exact h.run_two_of_timeout
  | ok =>
    cases ha : toldBytes 5 s.lineAtResponse a2 with
    | none => exact h.run_three_of_timeout ha
    | some bs => exact h.run_four ha

end StartsExchange

/-! ### The state before T7 -/

/-- What an exchange that starts in `s` has done by the time it ends, T7 still to come. -/
structure ExchangeEnded (s : State) (mode : Mode) (rest : List CmdRecord) (a1 : WriteAnswer) (a2 : ReadAnswer)
    (rs : List ReadAnswer) (a : Option (List Byte)) (e : State) : Prop where
  fsm : e.fsm = .done ∨ e.fsm = .failed
  quiet : e.quiet
  inMode : e.mode = mode
  cmds : e.cmds = rest
  results : e.results = s.results
  status : e.status = bigStepStatus mode a1 a
  txf : e.txf = { v := true, msg := requestOf mode s }
  txlog : e.txlog = s.txlog ++ bigStepSent (requestOf mode s) a1
  readAnswers : e.readAnswers = if a1 = .ok then rs else a2 :: rs
  /-- RXF is valid where a frame was decoded (R182) -/
  decoded : e.rxf.v = true ↔ e.status = .ok ∨ e.status = .badChecksum ∨ e.status = .nak ∨ e.status = .notAcked
  /-- RXF holds that frame -/
  response : e.rxf.v = true → ∃ bs, a = some bs ∧ decodeMessage bs = some e.rxf.msg

/-- Timeout and InvalidFrame are the failures without a decoded frame (R182). -/
theorem not_decoded_iff {K : Status} (h : K = .timeout ∨ K = .invalidFrame) :
    false = true ↔ K = .ok ∨ K = .badChecksum ∨ K = .nak ∨ K = .notAcked := by
  rcases h with rfl | rfl <;> simp

theorem decoded_of_responseStatus (mode : Mode) (m : Message) :
    responseStatus mode m = .ok ∨ responseStatus mode m = .badChecksum ∨ responseStatus mode m = .nak ∨
      responseStatus mode m = .notAcked := by
  obtain ⟨h, -⟩ | ⟨h, -⟩ | ⟨h, -⟩ | ⟨h, -⟩ := responseStatus_cases mode m <;> simp [h]

theorem responseChecked_done_or_failed (m : Message) (s : State) :
    (responseChecked m s).fsm = .done ∨ (responseChecked m s).fsm = .failed := by
  obtain ⟨-, h⟩ | ⟨-, h⟩ := responseChecked_cases m s <;> simp [h]

theorem StartsExchange.ended (h : StartsExchange s mode rest a1 ws a2 rs) (a : Option (List Byte)) :
    ExchangeEnded s mode rest a1 a2 rs a (beforeT7 mode rest a1 a s) := by
  have hq2 := quiet_afterTick (quiet_afterTick h.quiet)
  have hq4 := quiet_afterTick (quiet_afterTick hq2)
  have hr : s.readAnswers.tail = rs := congrArg List.tail h.readAnswers
  match a1, a with
  | .timeout n, _ =>
    exact ⟨.inr rfl, hq2, rfl, rfl, rfl, rfl, rfl, rfl, h.readAnswers, not_decoded_iff (.inl rfl), nofun⟩
  | .ok, none =>
    exact ⟨.inr rfl, quiet_afterTick hq2, rfl, rfl, rfl, rfl, rfl, rfl, hr, not_decoded_iff (.inl rfl), nofun⟩
  | .ok, some bs =>
    cases hm : decodeMessage bs with
    | none =>
      rw [beforeT7_of_other hm]
      exact ⟨.inr rfl, hq4, rfl, rfl, rfl, (bigStepStatus_of_other mode hm).symm, rfl, rfl, hr,
        not_decoded_iff (.inr rfl), nofun⟩
    | some m =>
      rw [beforeT7_of_frame hm]
      have hf := responseChecked_done_or_failed m (afterTick (afterT4 mode rest bs s))
      rw [responseChecked_eq] at hf ⊢
      exact ⟨hf, hq4, rfl, rfl, rfl, (bigStepStatus_of_frame mode hm).symm, rfl, rfl, hr,
        iff_of_true rfl (decoded_of_responseStatus mode m), fun _ => ⟨bs, rfl, hm⟩⟩

/-! ### The line after T7 -/

theorem StartsExchange.line_of_writeTimeout {n : Nat} (h : StartsExchange s mode rest (.timeout n) ws a2 rs) :
    (afterTick (beforeT7 mode rest (.timeout n) a s)).line = s.lineAtResponse := by
  simp only [State.lineAtResponse, arrives_zero, arrives_of_run h.run_one,
    arrives_of_run (h.run_two_of_timeout (a := a))]
  rfl

theorem StartsExchange.line_of_readTimeout (h : StartsExchange s mode rest .ok ws a2 rs)
    (ha : toldBytes 5 s.lineAtResponse a2 = none) :
    (afterTick (beforeT7 mode rest .ok none s)).line = s.arrives 3 := by
  rw [arrives_of_run (h.run_three_of_timeout ha)]
  exact congrArg (· ++ _) (lineAfterAnswer_timeout (h.answeredBytes_afterT2.trans ha))

/-- Bytes handed over from the front of the line are the only ones the exchange takes from it. -/
theorem StartsExchange.line_of_bytes (h : StartsExchange s mode rest .ok ws a2 rs) {bs left : List Byte}
    (ha : toldBytes 5 s.lineAtResponse a2 = some bs) (hl : s.lineAtResponse = bs ++ left) :
    (afterTick (beforeT7 mode rest .ok (some bs) s)).line = left ++ s.arrives 3 ++ s.arrives 4 := by
  have hleft : lineAfterAnswer frameLen (afterTick (afterT2 mode rest s)) = left :=
    lineAfterAnswer_append (h.answeredBytes_afterT2.trans ha) (h.line_afterT2.trans hl)
  have hline : (beforeT7 mode rest .ok (some bs) s).line = (afterTick (afterT4 mode rest bs s)).line := by
    cases hm : decodeMessage bs with
    | none => rw [beforeT7_of_other hm]; rfl
    | some m => rw [beforeT7_of_frame hm, responseChecked_eq]
  rw [arrives_of_run (h.run_three ha), arrives_of_run (h.run_four ha), afterTick_line, hline, ← hleft]
  rfl

/-! ### T7 -/

theorem bigStepCount_pos (a1 : WriteAnswer) (a : Option (List Byte)) : 0 < bigStepCount a1 a := by
  unfold bigStepCount
  split <;> decide

theorem StartsExchange.run (h : StartsExchange s mode rest a1 ws a2 rs) (ha : a = toldBytes 5 s.lineAtResponse a2) :
    Host.Core.run Sys2Proof.core (bigStepCount a1 a) s =
      .next (takeResult (afterTick (beforeT7 mode rest a1 a s))) := by
  have he := h.ended a
  rw [← Nat.sub_add_cancel (bigStepCount_pos a1 a)]
  exact run_snoc (h.run_beforeT7 ha) (step_takes_result he.fsm he.quiet)

/-! ### What an earlier command left -/

/-- `s` as another past would have left it: with other values in RXF, RXB and STATUS and other results handed over. -/
def State.withPast (F : FrameReg) (B : List Byte) (K : Status) (R : List Result) (s : State) : State :=
  { s with rxf := F, rxb := B, status := K, results := R }

variable {F : FrameReg} {B : List Byte} {K : Status} {R : List Result}

theorem StartsExchange.withPast (h : StartsExchange s mode rest a1 ws a2 rs) :
    StartsExchange (s.withPast F B K R) mode rest a1 ws a2 rs :=
  ⟨h.idle, h.quiet, h.port, h.valid, h.writeAnswers, h.readAnswers⟩

theorem StartsExchange.lineAtResponse_withPast (h : StartsExchange s mode rest a1 ws a2 rs) :
    (s.withPast F B K R).lineAtResponse = s.lineAtResponse := by
  cases a1 with
  | ok =>
    rw [← h.line_afterT2, ← h.withPast.line_afterT2]
    rfl
  | timeout n =>
    rw [← h.line_of_writeTimeout (a := none), ← h.withPast.line_of_writeTimeout (a := none)]
    rfl

/-- Neither the line nor the counter of free values depends on the past. -/
theorem beforeT7_withPast (mode : Mode) (rest : List CmdRecord) (a1 : WriteAnswer) (a : Option (List Byte))
    (s : State) :
    (afterTick (beforeT7 mode rest a1 a (s.withPast F B K R))).line = (afterTick (beforeT7 mode rest a1 a s)).line ∧
      (beforeT7 mode rest a1 a (s.withPast F B K R)).draws = (beforeT7 mode rest a1 a s).draws := by
  match a1, a with
  | .timeout n, _ => exact ⟨rfl, rfl⟩
  | .ok, none => exact ⟨rfl, rfl⟩
  | .ok, some bs =>
    cases hm : decodeMessage bs with
    | none =>
      rw [beforeT7_of_other hm, beforeT7_of_other hm]
      exact ⟨rfl, rfl⟩
    | some m =>
      rw [beforeT7_of_frame hm, beforeT7_of_frame hm, responseChecked_eq, responseChecked_eq]
      exact ⟨rfl, rfl⟩

/-- The record of T7 is a function of the mode, STATUS, the free values and, where STATUS is OK, of RXF (R141). -/
theorem exchangeResult_congr {u v : State} (hm : u.mode = v.mode) (hk : u.status = v.status) (hd : u.draws = v.draws)
    (hx : u.status = .ok → u.rxf.msg = v.rxf.msg) : exchangeResult u = exchangeResult v := by
  by_cases hok : u.status = .ok
  · simp [exchangeResult, bareResult, hm, ← hk, hd, hok, hx hok]
  · simp [exchangeResult, bareResult, ← hk, hd, hok]

/-- The frame that was decoded is the same, and so is the record. -/
theorem StartsExchange.exchangeResult_withPast (h : StartsExchange s mode rest a1 ws a2 rs) (a : Option (List Byte)) :
    exchangeResult (afterTick (beforeT7 mode rest a1 a (s.withPast F B K R))) =
      exchangeResult (afterTick (beforeT7 mode rest a1 a s)) := by
  have he := h.ended a
  have he' := (h.withPast (F := F) (B := B) (K := K) (R := R)).ended a
  have hk := he'.status.trans he.status.symm
  refine exchangeResult_congr (he'.inMode.trans he.inMode.symm) hk
    (congrArg (· + 1) (beforeT7_withPast mode rest a1 a s).2) fun hok => ?_
  obtain ⟨bs, ha, hm⟩ := he.response (he.decoded.2 (.inl (hk ▸ hok)))
  obtain ⟨bs', ha', hm'⟩ := he'.response (he'.decoded.2 (.inl hok))
  obtain rfl : bs = bs' := Option.some.inj (ha.symm.trans ha')
  exact Option.some.inj (hm'.symm.trans hm)

end Sys2Proof.Machine
end

section
/-! The obligations of spec/41_exchange.md. -/

namespace Sys2Proof.Machine

/-- Settles O8: the waiting bit is bit 7 of byte 1, and the checksum takes the difference over. -/
theorem queryAndWriteFramesDifferInBit7 : Obligations.QueryAndWriteFramesDifferInBit7 := by
  intro m
  rw [encodeMessage_requestMessage, encodeMessage_requestMessage, functionByte_query, checksum_query]
  simp

/-- Settles O24: acceptance in IDLE, then T1. -/
theorem exchangeStarts : Obligations.ExchangeStarts := by
  refine fun s hf hv => ⟨?_, ?_⟩
  · rintro m rfl
    exact ⟨_, rfl, exec_query_next_iff.2 ⟨hf, hv, rfl⟩⟩
  · rintro m rfl
    exact ⟨_, rfl, exec_write_next_iff.2 ⟨hf, hv, rfl⟩⟩

/-- Settles O25: acceptance in IDLE, then T8. -/
theorem clearStarts : Obligations.ClearStarts := fun _ hf => exec_clear_next_iff.2 ⟨hf, rfl⟩

/-- Settles O26: in SEND either class of request is its transmission, and `ok` makes that T2. -/
theorem requestFrameSent : Obligations.RequestFrameSent := by
  refine fun s addr fc data ck hf ha => ⟨?_, ?_⟩
  all_goals
    rintro m rfl
    exact (frameDue_of_fsm hf).trans (congrArg Host.Outcome.next (frameSent_of_ok _ ha))

/-- Settles O27: in SEND either class of request is its transmission, and `timeout` makes that T3. -/
theorem requestFrameTimesOut : Obligations.RequestFrameTimesOut := by
  refine fun s addr fc data ck sent hf ha => ⟨?_, ?_⟩
  all_goals
    rintro m rfl
    exact (frameDue_of_fsm hf).trans (congrArg Host.Outcome.next (frameSent_of_timeout _ ha))

/-- Settles O28: the function code is ACK's, so no test fails in either mode. -/
theorem ackFrameSucceeds : Obligations.AckFrameSucceeds := by
  rintro s addr wb data ck m hf rfl hck
  exact frameDue_responseChecked (K := .ok) hf ((responseStatus_of_valid s.mode hck).trans (by simp [ackCode, nakCode]))

/-- Settles O29: the checksum test passes and the next one fails. -/
theorem nakFrameFails : Obligations.NakFrameFails := by
  rintro s addr wb data ck m hf rfl hck
  exact frameDue_responseChecked (K := .nak) hf ((responseStatus_of_valid s.mode hck).trans (if_pos rfl))

/-- Settles O30: the mode decides, since the checksum is right and the code neither NAK's nor ACK's. -/
theorem datFrameByMode : Obligations.DatFrameByMode := by
  rintro s addr wb fc data ck m hf ha hn rfl hck
  have hk := (responseStatus_of_valid (m := ⟨addr, wb, fc, data, ck⟩) s.mode hck).trans (if_neg hn)
  refine ⟨fun hw => ?_, fun hw => ?_⟩
  · exact frameDue_responseChecked (K := .ok) hf (hk.trans (if_neg fun h => hw h.1))
  · exact frameDue_responseChecked (K := .notAcked) hf (hk.trans (if_pos ⟨hw, ha⟩))

/-- Settles O31: each class is T6 on the Message, whose first test fails. -/
theorem badChecksumComesFirst : Obligations.BadChecksumComesFirst := by
  rintro s ⟨addr, wb, fc, data, ck⟩ hf hck i hi
  have hk := responseStatus_of_badChecksum s.mode hck
  obtain ⟨rfl, hfc⟩ | ⟨rfl, hfc⟩ | rfl := hi
  · obtain rfl : fc = 0x06#7 := hfc
    exact frameDue_responseChecked hf hk
  · obtain rfl : fc = 0x15#7 := hfc
    exact frameDue_responseChecked hf hk
  · exact frameDue_responseChecked hf hk

/-- Settles O32: every frame stands behind `frameDue`. -/
theorem framesNeedTheirState : Obligations.FramesNeedTheirState := by
  refine fun s => ⟨fun hf => ⟨fun _ _ _ _ => ?_, fun _ _ _ _ => ?_⟩,
    fun hf => ⟨fun _ _ _ _ => ?_, fun _ _ _ _ => ?_, fun _ _ _ _ _ => ?_⟩⟩ <;> exact frameDue_of_ne hf

/-- Settles O34: the five bytes outstanding are a Message's, so the step is their transmission. -/
theorem sendStep : Obligations.SendStep := by
  intro s b0 b1 b2 b3 b4 hf hq hr
  have hs : step s = .next (frameSent [b0, b1, b2, b3, b4] (afterTick s)) := by
    refine step_of_busy_block hr (by simp [waitsForHost, hf]) ?_
    rw [← frameBytes_messageOfBytes b0 b1 b2 b3 b4] at hq ⊢
    have hw := fetch_of_request (s := afterTick s) hf hq
    exact (blockStep_of_fetch hw (decodeRaw_request_frameBytes _)).trans (exec_requestClass_next_iff.2 ⟨hf, rfl⟩)
  refine ⟨fun ha => ?_, fun sent ha => ⟨s.txlog ++ [b0, b1, b2, b3, b4].take sent, ?_⟩⟩
  · rw [hs, frameSent_of_ok _ ha]
    rfl
  · rw [hs, frameSent_of_timeout _ ha]
    rfl

/-- Settles O35: the block's own step in AWAIT_RESPONSE is T4 or T5. -/
theorem awaitStep : Obligations.AwaitStep := by
  intro s n hf hq hr
  have hs := step_of_busy_block hr (by simp [waitsForHost, hf]) (blockStep_of_awaitResponse (u := afterTick s) hf hq)
  refine ⟨fun bs ha => ?_, fun ha => ?_⟩
  · rw [hs, responseRead_of_bytes ha]
    rfl
  · rw [hs, responseRead_of_timeout ha]
    rfl

/-- Settles O36: T6 on what RXB decodes to; its tests on the Message are those of the table on the bytes. -/
theorem validateStep : Obligations.ValidateStep := by
  intro s hf hr
  have hw : waitsForHost s = false := by simp [waitsForHost, hf]
  refine ⟨fun hl => ?_, fun b0 b1 b2 b3 b4 K hb hK => ?_⟩
  · have hm := (decodeMessage_eq_none_iff s.rxb).2 hl
    exact step_of_busy_block hr hw (blockStep_of_validate_other (u := afterTick s) hf hm)
  · have hm : decodeMessage s.rxb = some (messageOfBytes b0 b1 b2 b3 b4) := by rw [hb]; rfl
    refine ⟨_, hm, ?_⟩
    rw [step_of_busy_block hr hw (blockStep_of_validate_frame (u := afterTick s) hf hm), responseChecked_eq, hK,
      bigStepStatus_of_frame s.mode hm]
    rfl

/-- Settles O37: the block's own step in DRAIN is T9 or T10. -/
theorem drainStep : Obligations.DrainStep := by
  intro s n hf hq hr
  have hs := step_of_busy_block hr (by simp [waitsForHost, hf]) (blockStep_of_drain (u := afterTick s) hf hq)
  refine ⟨fun bs ha => ?_, fun ha => ?_⟩
  · rw [hs, drainRead_of_bytes ha]
    rfl
  · rw [hs, drainRead_of_timeout ha]
    rfl

/-- Settles O38: the record of T7 has STATUS, and RXF's Message where a QUERY ended with OK. -/
theorem takeResultStep : Obligations.TakeResultStep := fun s hf hq =>
  ⟨_, exchangeResult_status (afterTick s), exchangeResult_msg (afterTick s), step_of_ended hf hq⟩

/-- Settles O43: every step but a reset is one of the named transitions. -/
theorem transitionTableIsComplete : Obligations.TransitionTableIsComplete := by
  intro s t h hr
  obtain ⟨hr', -⟩ | ⟨-, ht⟩ := step_next_cases h
  · simp [hr] at hr'
  · exact ht.allowed

/-- Settles O44: neither a reset nor a transition outside IDLE touches the command port. -/
theorem commandsWaitOnThePort : Obligations.CommandsWaitOnThePort := by
  intro s t h hi
  obtain ⟨-, rfl⟩ | ⟨-, ht⟩ := step_next_cases h
  · rfl
  · exact ht.cmds hi

/-- Settles O52: the invariant ties OK to DONE, which holds the response, and every other status to FAILED. -/
theorem exchangeGuarantee : Obligations.ExchangeGuarantee := by
  intro s h hf hx hq
  refine ⟨_, _, step_of_ended hf hq, rfl, ?_⟩
  rw [exchangeResult_status]
  obtain hf | hf := hf
  · have hk := h.doneStatus hf
    obtain ⟨hv, hck, hn, ha⟩ := h.doneResponse hf hx
    exact ⟨fun _ => ⟨hv, (verifyChecksum_iff _).1 hck, hn, ha, fun hm => exchangeResult_msg (afterTick s) hm hk⟩,
      fun hne => absurd hk hne⟩
  · have hc := h.failedStatus hf
    have hne : s.status ≠ .ok := fun hk => by simp [hk, Status.isCommunicationError] at hc
    exact ⟨fun hk => absurd hk hne, fun _ => hc⟩

/-- Settles O55: T8 and T9 keep what holds while CLEAR drains. -/
theorem clearIsNotCapped : Obligations.ClearIsNotCapped := by
  intro s c rest datas rs hf hq hc ho ha
  obtain ⟨u, hu, hd⟩ := exists_draining_of_data hf hq hc ho ha
  exact ⟨u, hu, hd.fsm, hd.request, hd.results, hd.cmds, hd.readAnswers⟩

/-- Settles O54: T8 and T9 keep what holds while CLEAR drains, T10 empties the line, and T7 hands the OK over. -/
theorem clearEndsAtTheFirstTimeout : Obligations.ClearEndsAtTheFirstTimeout := by
  intro s c rest datas rs hf hq hc ho ha
  obtain ⟨u, hu, hd⟩ := exists_draining_of_data hf hq hc ho ha
  obtain ⟨hs, hline⟩ := hd.step_of_timeout
  have hdone := run_snoc hu hs
  have hr : u.readAnswers.tail = rs := congrArg List.tail hd.readAnswers
  have htaken := run_snoc hdone (step_takes_result (.inl rfl) (quiet_afterTick hd.quiet))
  exact ⟨⟨_, hdone, rfl, hline⟩, _, _, htaken, rfl, rfl, rfl, hd.cmds, rfl, congrArg (· ++ _) hd.results,
    exchangeResult_status _, hd.txf, hd.rxf, hd.txlog, hr⟩

/-- Settles O53: the run to the end of the exchange, what it has done by then, and T7. -/
theorem exchangeBigStep : Obligations.ExchangeBigStep := by
  rintro s c rest mode a1 a2 ws rs m a K hf hq hc ho hv hw hr rfl ha rfl
  have h : StartsExchange s mode rest a1 ws a2 rs := ⟨hf, hq, ⟨c, hc, ho⟩, hv, hw, hr⟩
  obtain ⟨-, -, hm, hcmds, hres, hk, htxf, hlog, hreads, hdec, hresp⟩ := h.ended a
  rw [hk] at hdec
  refine ⟨_, _, h.run ha, rfl, rfl, rfl, hcmds, hk, congrArg (· ++ _) hres, (exchangeResult_status _).trans hk, ?_,
    htxf, hlog, hdec, hresp, hreads, ?_, ?_, ?_⟩
  · intro hquery hok
    rw [exchangeResult_msg (afterTick _) (hm.trans hquery) (hk.trans hok)]
    exact hresp (hdec.2 (.inl hok))
  · rintro n rfl
    exact h.line_of_writeTimeout
  · rintro rfl rfl
    exact h.line_of_readTimeout ha.symm
  · rintro bs left rfl rfl hl
    exact h.line_of_bytes ha.symm hl

/-- Settles O56: nothing the exchange does before T7 reads the past, and the record of T7 reads RXF only where the
exchange has written it. -/
theorem exchangeForgetsEarlierCommands : Obligations.ExchangeForgetsEarlierCommands := by
  intro s s' c rest a1 a2 ws rs a hf hq hc ho hv hw hr ha hs'
  obtain ⟨F, B, K, R, rfl⟩ : ∃ F B K R, s' = s.withPast F B K R := ⟨_, _, _, _, hs'⟩
  obtain ⟨mode, hm⟩ : ∃ mode, (c.op = 4#3 ∧ mode = Mode.query) ∨ (c.op = 5#3 ∧ mode = Mode.write) :=
    ho.elim (fun h => ⟨_, .inl ⟨h, rfl⟩⟩) fun h => ⟨_, .inr ⟨h, rfl⟩⟩
  have h : StartsExchange s mode rest a1 ws a2 rs := ⟨hf, hq, ⟨c, hc, hm⟩, hv, hw, hr⟩
  have h' := h.withPast (F := F) (B := B) (K := K) (R := R)
  have he := h.ended a
  have he' := h'.ended a
  have hres : (takeResult (afterTick (beforeT7 mode rest a1 a (s.withPast F B K R)))).results =
      R ++ [exchangeResult (afterTick (beforeT7 mode rest a1 a s))] := by
    rw [← h.exchangeResult_withPast a]
    exact congrArg (· ++ _) he'.results
  exact ⟨_, _, _, h.run ha, h'.run (h.lineAtResponse_withPast ▸ ha), rfl, rfl, congrArg (· ++ _) he.results, hres,
    he.status.trans he'.status.symm, he.txf.trans he'.txf.symm, he.txlog.trans he'.txlog.symm,
    (beforeT7_withPast mode rest a1 a s).1.symm⟩

end Sys2Proof.Machine
end

section
/-! SUPPORT. What a reset adds to the sent bytes, with and without a TWrite in progress. -/

namespace Sys2Proof.Machine

variable {u : State}

/-- Of the TWrite a reset abandons, first bytes are sent (R201; log 12). -/
theorem resetBlock_txlog_of_twrite {bs : List Byte} (hq : u.request = some (.twrite bs)) :
    ∃ k, (resetBlock u).txlog = u.txlog ++ bs.take k :=
  ⟨Config.sentCount u.draws u.txlog, by simp [abandonedBytes, hq]⟩

theorem resetBlock_txlog_of_no_twrite (hq : ∀ bs, u.request ≠ some (.twrite bs)) :
    (resetBlock u).txlog = u.txlog := by
  obtain hl | ⟨bs, _, hw, -⟩ := resetBlock_txlog_cases u
  · exact hl
  · exact absurd hw (hq bs)

end Sys2Proof.Machine
end

section
/-! The obligations of spec/70_reset_and_hazards.md. -/

namespace Sys2Proof.Machine

/-- Settles O41: the step is `resetBlock` of the state after the tick; whether a TWrite was in progress decides what is
sent, and the line is the tick's. -/
theorem resetStep : Obligations.ResetStep := by
  intro s hr
  refine ⟨_, step_of_reset hr, rfl, rfl, rfl, rfl, rfl, rfl, rfl, rfl, rfl, rfl, ?_, rfl⟩
  by_cases hw : ∃ bs, s.request = some (.twrite bs)
  · obtain ⟨bs, hq⟩ := hw
    obtain ⟨k, hk⟩ := resetBlock_txlog_of_twrite (u := afterTick s) hq
    exact .inl ⟨bs, k, hq, hk⟩
  · have hq : ∀ bs, s.request ≠ some (.twrite bs) := not_exists.1 hw
    exact .inr ⟨hq, resetBlock_txlog_of_no_twrite (u := afterTick s) hq⟩

end Sys2Proof.Machine
end
